-- ==== Sys2Proof/Word.lean ====
section
/-! DEFINITION. The word types of retro_6809 CORE (00_scope.md R8, R12). -/

namespace Sys2Proof

/-- An 8-bit value: a byte of memory, A, B, DP (R8). -/
abbrev Byte := BitVec 8

/-- A 16-bit value: X, Y, U, S, PC, D, an MMU word register (R8). -/
abbrev Word := BitVec 16

/-- A bus address (00_scope.md R8 `ADDR_BITS`); all address arithmetic wraps (20_memory.md R87). -/
abbrev Addr := BitVec 16

end Sys2Proof
end

