-- ==== Sys2Proof/Config.lean ====
section
/-! DEFINITION. What an implementation fixes (the OPEN parameters of 00_scope.md R8, as plain data that a
state carries and no step writes), the names of what R8 fixes, and the free values (93_implementation_defined.md
U1, U2, U4, U5). The values themselves stand in Machine/Constants.lean. -/

namespace Sys2Proof

/-- The hardware vectors (20_memory.md R93). -/
inductive Vector
  | reset | nmi | swi | irq | firq | swi2 | swi3
  deriving DecidableEq, Repr

/-! ### The memory map (20_memory.md R83, R84) -/

/-- One of the two bank windows (20_memory.md R94). -/
inductive Window
  | one | two
  deriving DecidableEq, Repr

/-- The five kinds of region (20_memory.md R83). -/
inductive Device
  | ram
  | rom
  | mmuReg
  | bankWin (k : Window)
  | external
  deriving DecidableEq, Repr

/-- One entry of `MEMMAP`: a size and a kind; its base is the sum of the sizes before it (R84). -/
structure Region where
  size : Nat
  kind : Device
  deriving DecidableEq, Repr

/-! ### The MMU's register, command and error tables -/

/-- The MMU registers, in the order of 10_state.md R60. -/
inductive MmuReg
  | bank1Select | bank2Select
  | blocksFree | blocksAllocated | blocksFragged
  | arg1 | arg2
  | command | error
  | metaData
  | metaRoot | metaPrev | metaNext
  | rawIndex
  deriving DecidableEq, Repr

/-- The MMU commands, in the order of 49_mmu_commands.md R461. -/
inductive MmuCommand
  | nop | pgAlloc | pgFree | alloc | free
  | loadRoot | loadNext | loadPrev | loadLast
  | delNode | insBefore | insAfter
  | pushBack | pushFront | popBack | popFront
  | lockNode | unlockNode
  | defrag | reset | size
  deriving DecidableEq, Repr

/-- The codes of the MMU errors (60_exceptions.md R556): a table of the configuration. -/
structure ErrorCodes where
  none : Byte
  outOfMem : Byte
  alloc : Byte
  free : Byte
  mapping : Byte
  unmapping : Byte
  invalid : Byte
  argument : Byte
  handle : Byte
  node : Byte
  page : Byte
  bank : Byte
  address : Byte
  offset : Byte
  length : Byte
  index : Byte
  unknown : Byte
  /-- `ERR_PG_FREE`, any byte but 0 (00_scope.md R8; 92_eei_decisions.md D30).
  Its default stands in `defaultErrors` (log 4). -/
  pgFree : Byte
  deriving DecidableEq, Repr

/-- The OPEN parameters of 00_scope.md R8. -/
structure Config where
  /-- `MEMMAP` (20_memory.md R84). -/
  memMap : List Region
  /-- Offset and register, one entry per register of the block (10_state.md R60; D28). -/
  mmuRegs : List (Nat × MmuReg)
  /-- Code and command, one entry per command (49_mmu_commands.md R461; D29). -/
  commands : List (Byte × MmuCommand)
  /-- The error codes (60_exceptions.md R556; D30). -/
  errors : ErrorCodes
  /-- `CWAI_ENTRY_RESTACKS` (60_exceptions.md R539; D16). -/
  cwaiEntryRestacks : Bool
  /-- `SEX_CLEARS_V` (42_arithmetic.md R298; D11). -/
  sexClearsV : Bool
  deriving DecidableEq, Repr

/-! ### Free values (log 6): nothing can prove what they are -/

/-- The k-th free byte: what an EXTERNAL device answers (U4), a META register with the cursor out of range
and a failed window read (U5). -/
opaque Config.freeByte : Nat → Byte

/-- The k-th free flag: H where the spec leaves it unspecified (U1), V after DAA (U2). -/
opaque Config.freeFlag : Nat → Bool

/-- Whether a composed MMU command that fails in its second part leaves `RAW_INDEX` where its first part moved it:
49_mmu_commands.md R460 and R482 to R485 say so, R492 says that a failing command changes no register but `error`,
`command` and `ARG_1` (log 18). -/
opaque Config.failedPartMovesCursor : Bool

end Sys2Proof
end

