-- ==== Sys2Proof/Machine/Constants.lean ====
section
/-! DEFINITION. The constants of 00_scope.md R8, the vectors, the default tables, the reference configuration, and what a
byte that nothing has written reads as. -/

namespace Sys2Proof

/-! ### Constants of 00_scope.md R8 -/

/-- `NODES`, the MMU pool size in nodes (R8, 10_state.md R46, 90_conflicts.md C1). -/
def nodes : Nat := 52428

/-- `PAGE_NODES`, the nodes of an 8 KB page (R8). -/
def pageNodes : Nat := 256

/-- `NODE_BYTES`, the payload bytes of one node (R8). -/
def nodeBytes : Nat := 32

/-- `WINDOW_BYTES`, the size of a bank window (R8). -/
def windowBytes : Nat := 8192

/-- The size of the MMU register block (10_state.md R60). -/
def mmuBlockBytes : Nat := 56

/-- `NO_NODE`, the sentinel: "no node" as a link, "unmapped" as a bank select (R8, 10_state.md R48, R51). -/
def noNode : Word := 0xFFFF

/-- `UNMAPPED_READ`, what an address outside every region reads as (R8, 20_memory.md R81). -/
def unmappedRead : Byte := 0xCC

/-! ### The vectors and the register sizes -/

/-- The address each vector stands at (20_memory.md R93). -/
def Vector.addr : Vector → Addr
  | .reset => 0xFFFE
  | .nmi => 0xFFFC
  | .swi => 0xFFFA
  | .irq => 0xFFF8
  | .firq => 0xFFF6
  | .swi2 => 0xFFF4
  | .swi3 => 0xFFF2

/-- The bytes a register takes (10_state.md R60). -/
def MmuReg.size : MmuReg → Nat
  | .command | .error => 1
  | .metaData => 32
  | _ => 2

/-! ### The default tables and the reference configuration (00_scope.md R8, 92_eei_decisions.md D52) -/

/-- The register offsets of 10_state.md R60. -/
def defaultMmuRegs : List (Nat × MmuReg) :=
  [(0x00, .bank1Select), (0x02, .bank2Select), (0x04, .blocksFree), (0x06, .blocksAllocated),
   (0x08, .blocksFragged), (0x0A, .arg1), (0x0C, .arg2), (0x0E, .command), (0x0F, .error),
   (0x10, .metaData), (0x30, .metaRoot), (0x32, .metaPrev), (0x34, .metaNext), (0x36, .rawIndex)]

/-- The command codes of 49_mmu_commands.md R461. -/
def defaultCommands : List (Byte × MmuCommand) :=
  [(0x00, .nop), (0x01, .pgAlloc), (0x02, .pgFree), (0x03, .alloc), (0x04, .free),
   (0x05, .loadRoot), (0x06, .loadNext), (0x07, .loadPrev), (0x08, .loadLast),
   (0x09, .delNode), (0x0A, .insBefore), (0x0B, .insAfter), (0x0C, .pushBack),
   (0x0D, .pushFront), (0x0E, .popBack), (0x0F, .popFront), (0x10, .lockNode),
   (0x11, .unlockNode), (0x12, .defrag), (0x13, .reset), (0x14, .size)]

/-- The error codes of 60_exceptions.md R556. `ERR_PG_FREE` is open: DESIGN CHOICE, unsafe for runs from reset only, its
default is 0x11 (log 4). -/
def defaultErrors : ErrorCodes where
  none := 0x00
  outOfMem := 0x01
  alloc := 0x02
  free := 0x03
  mapping := 0x04
  unmapping := 0x05
  invalid := 0x06
  argument := 0x07
  handle := 0x08
  node := 0x09
  page := 0x0A
  bank := 0x0B
  address := 0x0C
  offset := 0x0D
  length := 0x0E
  index := 0x0F
  unknown := 0x10
  pgFree := 0x11

/-- The reference memory map (95_test_vectors.md section 1; 92_eei_decisions.md D52). -/
def referenceMap : List Region :=
  [⟨0xB000, .ram⟩, ⟨8192, .bankWin .one⟩, ⟨8192, .bankWin .two⟩, ⟨56, .mmuReg⟩, ⟨0x0FC8, .rom⟩]

/-- The reference configuration: D52 and the defaults of 00_scope.md R8.
DESIGN CHOICE (log 1): the configuration `State.reset` carries; statements hold for every configuration. -/
def Config.reference : Config where
  memMap := referenceMap
  mmuRegs := defaultMmuRegs
  commands := defaultCommands
  errors := defaultErrors
  cwaiEntryRestacks := false
  sexClearsV := false

end Sys2Proof

namespace Sys2Proof.Machine

/-- What a byte that nothing has written reads as. DESIGN CHOICE, unsafe (log 3): the spec gives RAM, window backing RAM and
an unloaded ROM no contents; a node's payload reads 0x00 when free (10_state.md R48). -/
def fillByte : Byte := 0x00

end Sys2Proof.Machine
end

