-- ==== Sys2Proof/Machine/State.lean ====
section
/-! DEFINITION. The state of the machine as plain data (10_state.md), the stops, and the state after reset. -/

namespace Sys2Proof.Machine

/-! ### The condition codes -/

/-- CC: "8 independently settable flag bits" (10_state.md R27). Its byte form is `CC.toByte` (R27). -/
structure CC where
  /-- Entire state saved (R28). -/
  e : Bool
  /-- FIRQ mask (R29). -/
  f : Bool
  /-- Half-carry (R30). -/
  h : Bool
  /-- IRQ mask (R31). -/
  i : Bool
  /-- Negative (R32). -/
  n : Bool
  /-- Zero (R33). -/
  z : Bool
  /-- Overflow (R34). -/
  v : Bool
  /-- Carry (R35). -/
  c : Bool
  deriving DecidableEq, Repr

/-! ### Memory -/

/-- Bytes by address, listed in one canonical form: addresses strictly rising, no byte listed that an unlisted address
reads as (`Memory.wf`). An unlisted byte reads `fillByte`. -/
abbrev Memory := List Host.Cell

/-! ### The MMU -/

/-- One node of the MMU pool (10_state.md R46): status byte (R47), 32 payload bytes, three links (R48). -/
structure Node where
  status : Byte
  data : Memory
  root : Word
  prev : Word
  next : Word
  deriving DecidableEq, Repr

/-- A free node (10_state.md R48). -/
def Node.free : Node := ⟨0x00, [], noNode, noNode, noNode⟩

/-- The nodes that are not as a free node is, by index, in the same canonical form as a memory; a node that is not listed
is free (70_reset_and_hazards.md R582). -/
abbrev Pool := List (Nat × Node)

/-- The MMU (10_state.md section 4). -/
structure Mmu where
  /-- The 52,428 nodes (R46). -/
  pool : Pool
  /-- `bank_sel[1]` (R51). -/
  bankSel1 : Word
  /-- `bank_sel[2]` (R51). -/
  bankSel2 : Word
  /-- `blocks_free` (R52). -/
  blocksFree : Word
  /-- `blocks_allocated` (R52). -/
  blocksAllocated : Word
  /-- `blocks_fragged` (R52). -/
  blocksFragged : Word
  /-- `arg1` (R53). -/
  arg1 : Word
  /-- `arg2` (R53). -/
  arg2 : Word
  /-- `command` (R54). -/
  command : Byte
  /-- `error` (R55). -/
  error : Byte
  /-- `raw_index`, the cursor (R57). -/
  rawIndex : Word
  deriving DecidableEq, Repr

/-- The MMU as constructed (70_reset_and_hazards.md R582). -/
def Mmu.construct : Mmu where
  pool := []
  bankSel1 := noNode
  bankSel2 := noNode
  blocksFree := 52428
  blocksAllocated := 0
  blocksFragged := 0
  arg1 := 0
  arg2 := 0
  command := 0
  error := 0
  rawIndex := 0

/-! ### The execution loop -/

/-- `wait`, the state of the interrupt controller (10_state.md R41). -/
inductive WaitState
  | normal | sync | cwai
  deriving DecidableEq, Repr

/-- The kinds of CPU fault (60_exceptions.md R522, R523, R525). No rule raises `invalidAddressingMode` (R523). -/
inductive FaultKind
  | invalidOpcode | invalidAddressingMode | invalidPostbyte
  deriving DecidableEq, Repr

/-- The fault record `(kind, info, at)` (10_state.md R43, 60_exceptions.md R524): `info` is the opcode key or the postbyte,
`start` the address of the instruction's first byte. -/
structure FaultRecord where
  kind : FaultKind
  info : Word
  start : Addr
  deriving DecidableEq, Repr

/-! ### The state -/

/-- The machine's state (10_state.md). -/
structure State where
  /-- The OPEN parameters (00_scope.md R8); no step writes them (log 1). -/
  cfg : Config
  /-- A (R20, R21). -/
  a : Byte
  /-- B (R20, R21). -/
  b : Byte
  /-- X (R23). -/
  x : Word
  /-- Y (R23). -/
  y : Word
  /-- U (R25). -/
  u : Word
  /-- S (R24). -/
  sp : Word
  /-- PC (R22). -/
  pc : Addr
  /-- DP (R26). -/
  dp : Byte
  /-- CC (R27). -/
  cc : CC
  /-- `nmi_hist` (R39). -/
  nmiHist : Bool
  /-- `nmi_disabled` (R40). -/
  nmiDisabled : Bool
  /-- `wait` (R41). -/
  wait : WaitState
  /-- `busy` (R42). -/
  busy : Nat
  /-- `fault`, the fault latch (R43). -/
  fault : Option FaultRecord
  /-- The level of `NMI_n`, an input, active low (R38; log 5). -/
  nmiN : Bool
  /-- The level of `FIRQ_n`, an input, active low (R38; log 5). -/
  firqN : Bool
  /-- The level of `IRQ_n`, an input, active low (R38; log 5). -/
  irqN : Bool
  /-- The MMU (R46 to R57). -/
  mmu : Mmu
  /-- The bytes of the RAM regions, by bus address (R69). -/
  ram : Memory
  /-- The bytes of the ROM regions, by bus address (R69). -/
  rom : Memory
  /-- `bank_ram[1]`, by offset in the window (R58). -/
  bankRam1 : Memory
  /-- `bank_ram[2]`, by offset in the window (R58). -/
  bankRam2 : Memory
  /-- The model's own: how many free values have been taken (log 6). -/
  draws : Nat
  /-- The model's own: this instruction has written the DEFRAG code to `COMMAND` (49_mmu_commands.md R488; log 7). -/
  defragIssued : Bool
  deriving DecidableEq, Repr

/-! ### Stops -/

/-- Faults of the machine as a whole. The CPU faults of the spec are no `Fault`: the machine takes them, as a next state
with the fault latch set (60_exceptions.md R524; log 8). -/
inductive Fault
  /-- The memory map has a region of size zero or takes more than 64 KB (60_exceptions.md R560). Raised by `tick` before
  anything else. Safe: the spec calls it fatal at startup. -/
  | busConfiguration
  deriving DecidableEq, Repr

/-- Refusals: what the model does not go on with. -/
inductive Refusal
  /-- An instruction without a meaning; no arm of `exec` answers so. Safe. -/
  | notModelled (mnemonic : String)
  /-- The DEFRAG command was issued: "a model refuses to continue when a program issues it" (49_mmu_commands.md R488).
  Raised by `finish`, at the end of an instruction or an interrupt entry. Safe. -/
  | defragUnspecified
  /-- The configuration lacks what the machine is defined for (20_memory.md R84, 93_implementation_defined.md U13).
  Raised by `tick` before anything else. Safe. -/
  | illFormedConfiguration
  deriving DecidableEq, Repr

/-! ### Reset -/

/-- The machine right after power-up and reset (10_state.md R70, 70_reset_and_hazards.md R580, R582). PC is the word at
$FFFE, which is 0x0000 while nothing is loaded into the ROM (log 3); A, B, X, Y, U, S and the CC bits other than F and I are
unspecified and stand at zero (log 2, DESIGN CHOICE, unsafe); the lines are high (log 5); the configuration is the reference
one (log 1). -/
def State.reset : State where
  cfg := Config.reference
  a := 0
  b := 0
  x := 0
  y := 0
  u := 0
  sp := 0
  pc := 0
  dp := 0
  cc := { e := false, f := true, h := false, i := true, n := false, z := false, v := false, c := false }
  nmiHist := true
  nmiDisabled := true
  wait := .normal
  busy := 0
  fault := none
  nmiN := true
  firqN := true
  irqN := true
  mmu := Mmu.construct
  ram := []
  rom := []
  bankRam1 := []
  bankRam2 := []
  draws := 0
  defragIssued := false

end Sys2Proof.Machine
end

