-- ==== Sys2Proof/Machine/Flags.lean ====
section
/-! DEFINITION. The byte form of CC, every flag computation of the spec, and the branch conditions. Results and flags are
separate functions of the operands. -/

namespace Sys2Proof.Machine

/-! ### CC as a byte (10_state.md R27) -/

/-- CC as a byte: E F H I N Z V C from bit 7 down to bit 0 (10_state.md R27). -/
def CC.toByte (f : CC) : Byte :=
  (BitVec.ofBool f.e ++ BitVec.ofBool f.f ++ BitVec.ofBool f.h ++ BitVec.ofBool f.i ++
    BitVec.ofBool f.n ++ BitVec.ofBool f.z ++ BitVec.ofBool f.v ++ BitVec.ofBool f.c : BitVec 8)

/-- CC from a byte; all eight bits are written (10_state.md R27). -/
def CC.ofByte (w : Byte) : CC where
  e := w.getLsbD 7
  f := w.getLsbD 6
  h := w.getLsbD 5
  i := w.getLsbD 4
  n := w.getLsbD 3
  z := w.getLsbD 2
  v := w.getLsbD 1
  c := w.getLsbD 0

/-! ### N and Z (10_state.md R32, R33) -/

/-- N and Z from an 8-bit result, V cleared: loads, stores, TST and the logical instructions
(41_load_store_transfer.md R210, 43_logic_shift.md R320). -/
def CC.move8 (cc : CC) (r : Byte) : CC := { cc with n := r.msb, z := r == 0, v := false }

/-- N and Z from a 16-bit value, V cleared: 16-bit loads and stores (41_load_store_transfer.md R210). -/
def CC.move16 (cc : CC) (r : Word) : CC := { cc with n := r.msb, z := r == 0, v := false }

/-! ### Adders and subtractors (42_arithmetic.md R260 to R263) -/

/-- The result of `Add8` (R260). -/
def add8 (a m : Byte) (c : Bool) : Byte := BitVec.ofNat 8 (a.toNat + m.toNat + c.toNat)

/-- The flags of `Add8` (R260). -/
def CC.add8 (cc : CC) (a m : Byte) (c : Bool) : CC :=
  let r := Machine.add8 a m c
  { cc with
    h := decide (15 < a.toNat % 16 + m.toNat % 16 + c.toNat)
    n := r.msb
    z := r == 0
    v := (a.msb == m.msb) && (r.msb != a.msb)
    c := decide (255 < a.toNat + m.toNat + c.toNat) }

/-- The result of `Sub8` (R261). -/
def sub8 (a m : Byte) (c : Bool) : Byte := a - m - BitVec.ofNat 8 c.toNat

/-- The flags of `Sub8` (R261); H is unspecified, `h` is the free flag (93_implementation_defined.md U1). -/
def CC.sub8 (cc : CC) (h : Bool) (a m : Byte) (c : Bool) : CC :=
  let r := Machine.sub8 a m c
  { cc with
    h := h
    n := r.msb
    z := r == 0
    v := (a.msb != m.msb) && (r.msb != a.msb)
    c := decide (a.toNat < m.toNat + c.toNat) }

/-- The flags of `Add16` (R262), whose result is `a + m`; H is not written. -/
def CC.add16 (cc : CC) (a m : Word) : CC :=
  let r := a + m
  { cc with
    n := r.msb
    z := r == 0
    v := (a.msb == m.msb) && (r.msb != a.msb)
    c := decide (65535 < a.toNat + m.toNat) }

/-- The flags of `Sub16` (R263), whose result is `a - m`; H is not written. -/
def CC.sub16 (cc : CC) (a m : Word) : CC :=
  let r := a - m
  { cc with
    n := r.msb
    z := r == 0
    v := (a.msb != m.msb) && (r.msb != a.msb)
    c := decide (a.toNat < m.toNat) }

/-! ### One-operand operations -/

/-- A one-operand operation: its result and its flags from the operand and the old CC. The `Bool` argument is a free flag,
used by the operations that leave H unspecified (93_implementation_defined.md U1). -/
structure Unary where
  /-- The result, from the operand and the old C. -/
  result : Byte → Bool → Byte
  /-- The new CC. -/
  flags : CC → Bool → Byte → CC
  /-- The operation leaves H unspecified and so takes a free flag. -/
  drawsH : Bool

/-- NEG (42_arithmetic.md R281). -/
def Unary.neg : Unary where
  result m _ := 0 - m
  flags cc h m :=
    let r : Byte := 0 - m
    { cc with h := h, n := r.msb, z := r == 0, v := m == 0x80, c := m != 0x00 }
  drawsH := true

/-- INC (42_arithmetic.md R284). -/
def Unary.inc : Unary where
  result m _ := m + 1
  flags cc _ m :=
    let r : Byte := m + 1
    { cc with n := r.msb, z := r == 0, v := m == 0x7F }
  drawsH := false

/-- DEC (42_arithmetic.md R287). -/
def Unary.dec : Unary where
  result m _ := m - 1
  flags cc _ m :=
    let r : Byte := m - 1
    { cc with n := r.msb, z := r == 0, v := m == 0x80 }
  drawsH := false

/-- COM (43_logic_shift.md R329). -/
def Unary.com : Unary where
  result m _ := ~~~m
  flags cc _ m :=
    let r := ~~~m
    { cc with n := r.msb, z := r == 0, v := false, c := true }
  drawsH := false

/-- LSR (43_logic_shift.md R332). -/
def Unary.lsr : Unary where
  result m _ := m >>> 1
  flags cc _ m := { cc with n := false, z := m >>> 1 == 0, c := m.getLsbD 0 }
  drawsH := false

/-- The result of ASR: bit 7 is kept (43_logic_shift.md R335). -/
def asr8 (m : Byte) : Byte := m.sshiftRight 1

/-- ASR (43_logic_shift.md R335). -/
def Unary.asr : Unary where
  result m _ := asr8 m
  flags cc h m := { cc with h := h, n := (asr8 m).msb, z := asr8 m == 0, c := m.getLsbD 0 }
  drawsH := true

/-- ASL (43_logic_shift.md R338). -/
def Unary.asl : Unary where
  result m _ := m <<< 1
  flags cc h m :=
    let r := m <<< 1
    { cc with h := h, n := r.msb, z := r == 0, v := m.getLsbD 7 ^^ m.getLsbD 6, c := m.getLsbD 7 }
  drawsH := true

/-- The result of ROL: the old C enters bit 0 (43_logic_shift.md R341). -/
def rol8 (m : Byte) (c : Bool) : Byte := m.extractLsb' 0 7 ++ BitVec.ofBool c

/-- ROL (43_logic_shift.md R341). -/
def Unary.rol : Unary where
  result m c := rol8 m c
  flags cc _ m :=
    let r := rol8 m cc.c
    { cc with n := r.msb, z := r == 0, v := m.getLsbD 7 ^^ m.getLsbD 6, c := m.getLsbD 7 }
  drawsH := false

/-- The result of ROR: the old C enters bit 7 (43_logic_shift.md R344). -/
def ror8 (m : Byte) (c : Bool) : Byte := BitVec.ofBool c ++ m.extractLsb' 1 7

/-- ROR (43_logic_shift.md R344). -/
def Unary.ror : Unary where
  result m c := ror8 m c
  flags cc _ m :=
    let r := ror8 m cc.c
    { cc with n := r.msb, z := r == 0, c := m.getLsbD 0 }
  drawsH := false

/-- The flags of CLR, which do not depend on the old value (42_arithmetic.md R293). -/
def CC.clear (cc : CC) : CC := { cc with n := false, z := true, v := false, c := false }

/-! ### MUL, DAA, SEX (42_arithmetic.md R296 to R298) -/

/-- The product of MUL: unsigned, 16 bits (R296). -/
def mul8 (a b : Byte) : Word := BitVec.ofNat 16 (a.toNat * b.toNat)

/-- The flags of MUL (R296). -/
def CC.mul (cc : CC) (p : Word) : CC := { cc with z := p == 0, c := p.getLsbD 7 }

/-- The correction DAA adds, from A, H and C (R297). -/
def daaCorrection (a : Byte) (h c : Bool) : Byte :=
  let low := a.toNat % 16
  let high := a.toNat / 16
  (if h = true ∨ 9 < low then 0x06 else 0x00) |||
    (if c = true ∨ 9 < high ∨ (8 < high ∧ 9 < low) then 0x60 else 0x00)

/-- The result of DAA (R297). -/
def daa8 (a : Byte) (h c : Bool) : Byte := a + daaCorrection a h c

/-- The flags of DAA (R297); V is unspecified, `v` is the free flag (93_implementation_defined.md U2). -/
def CC.daa (cc : CC) (v : Bool) (a : Byte) : CC :=
  let r := daa8 a cc.h cc.c
  { cc with
    n := r.msb
    z := r == 0
    v := v
    c := cc.c || decide (255 < a.toNat + (daaCorrection a cc.h cc.c).toNat) }

/-- The new A of SEX (R298). -/
def sexByte (b : Byte) : Byte := if b.msb then 0xFF else 0x00

/-- The flags of SEX, from the new D (R298); `clearsV` is `SEX_CLEARS_V` (92_eei_decisions.md D11). -/
def CC.sex (cc : CC) (clearsV : Bool) (d : Word) : CC :=
  { cc with n := d.msb, z := d == 0, v := cc.v && !clearsV }

/-! ### The branch conditions (44_branch_jump.md R370) -/

/-- The sixteen conditions, by the low nibble of the opcode (R370). -/
inductive Cond
  | always | never
  | hi | ls
  | cc | cs
  | ne | eq
  | vc | vs
  | pl | mi
  | ge | lt
  | gt | le
  deriving DecidableEq, Repr

/-- When a condition holds (R370). -/
def Cond.holds (k : Cond) (f : CC) : Bool :=
  match k with
  | .always => true
  | .never => false
  | .hi => !f.c && !f.z
  | .ls => f.c || f.z
  | .cc => !f.c
  | .cs => f.c
  | .ne => !f.z
  | .eq => f.z
  | .vc => !f.v
  | .vs => f.v
  | .pl => !f.n
  | .mi => f.n
  | .ge => f.n == f.v
  | .lt => f.n != f.v
  | .gt => !f.z && (f.n == f.v)
  | .le => f.z || (f.n != f.v)

end Sys2Proof.Machine
end

