-- ==== Sys2Proof/Syntax.lean ====
section
/-! DEFINITION. The operand forms and the instructions of spec/opcode_table.json (30_encoding.md R146). -/

namespace Sys2Proof

/-- The base registers of indexed mode, codes 00, 01, 10, 11 (40_addressing_modes.md R179). -/
inductive IdxReg
  | x | y | u | s
  deriving DecidableEq, Repr

/-- The indexed submodes over a base register that have an indirect form too
(40_addressing_modes.md R182, R184 to R190, R194). -/
inductive IdxMode
  | postInc2
  | preDec2
  | zero
  | accB
  | accA
  | off8 (n : Byte)
  | off16 (n : Word)
  | accD
  deriving DecidableEq, Repr

/-- An indexed operand: a postbyte with its extension bytes (40_addressing_modes.md R196). `ind` is bit 4 of
the postbyte, one level of indirection (R194). The PC-relative forms keep the register bits that the handler
ignores (R191), so that no bit of an encoding is lost. -/
inductive Indexed
  | off5 (r : IdxReg) (n : BitVec 5)
  | postInc1 (r : IdxReg)
  | preDec1 (r : IdxReg)
  | reg (r : IdxReg) (ind : Bool) (m : IdxMode)
  | pcr8 (r : IdxReg) (ind : Bool) (n : Byte)
  | pcr16 (r : IdxReg) (ind : Bool) (n : Word)
  | extInd (a : Addr)
  deriving DecidableEq, Repr

/-- A memory operand: direct, indexed or extended (30_encoding.md R137 to R139). -/
inductive MemForm
  | dir (lo : Byte)
  | idx (m : Indexed)
  | ext (a : Addr)
  deriving DecidableEq, Repr

/-- A byte operand: immediate 8 or in memory (30_encoding.md R135). -/
inductive Src8
  | imm (v : Byte)
  | mem (e : MemForm)
  deriving DecidableEq, Repr

/-- A word operand: immediate 16 or in memory (30_encoding.md R136). -/
inductive Src16
  | imm (v : Word)
  | mem (e : MemForm)
  deriving DecidableEq, Repr

/-- The registers that TFR and EXG name by a 4-bit code (41_load_store_transfer.md, the table after R229). -/
inductive Reg
  | d | x | y | u | s | pc
  | a | b | cc | dp
  deriving DecidableEq, Repr

/-- The instructions, one constructor per mnemonic of spec/opcode_table.json; a row of the table is a constructor at one
form of its operand: `lda (.imm v)` is the row `86`, `lda (.mem (.dir lo))` the row `96`, and so on (log 16 says why not one
constructor per row: Lean's compiler takes no inductive of 268 such constructors).
`m` is a byte or word operand, `e` a memory operand, `v` an immediate operand, `off` a branch displacement, `src` and
`dst` the register codes of TFR and EXG (30_encoding.md R142), `mask` the register list of PSHS, PULS, PSHU, PULU (R143).
A comment gives the keys of the constructor's rows and the rule of the operation. -/
inductive Instr
  /-- NEG: $00 DIR, $60 IDX, $70 EXT (R281). -/
  | neg (e : MemForm)
  /-- COM: $03 DIR, $63 IDX, $73 EXT (R329). -/
  | com (e : MemForm)
  /-- LSR: $04 DIR, $64 IDX, $74 EXT (R332). -/
  | lsr (e : MemForm)
  /-- ROR: $06 DIR, $66 IDX, $76 EXT (R344). -/
  | ror (e : MemForm)
  /-- ASR: $07 DIR, $67 IDX, $77 EXT (R335). -/
  | asr (e : MemForm)
  /-- ASL: $08 DIR, $68 IDX, $78 EXT (R338). -/
  | asl (e : MemForm)
  /-- ROL: $09 DIR, $69 IDX, $79 EXT (R341). -/
  | rol (e : MemForm)
  /-- DEC: $0A DIR, $6A IDX, $7A EXT (R287). -/
  | dec (e : MemForm)
  /-- INC: $0C DIR, $6C IDX, $7C EXT (R284). -/
  | inc (e : MemForm)
  /-- TST: $0D DIR, $6D IDX, $7D EXT (R290). -/
  | tst (e : MemForm)
  /-- JMP: $0E DIR, $6E IDX, $7E EXT (R405). -/
  | jmp (e : MemForm)
  /-- CLR: $0F DIR, $6F IDX, $7F EXT (R293). -/
  | clr (e : MemForm)
  /-- NOP: $12 INH (R408). -/
  | nop
  /-- SYNC: $13 INH (R430). -/
  | sync
  /-- LBRA: $16 REL16 (R387). -/
  | lbra (off : Word)
  /-- LBSR: $17 REL16 (R404). -/
  | lbsr (off : Word)
  /-- DAA: $19 INH (R297). -/
  | daa
  /-- ORCC: $1A IMM8 (R348). -/
  | orcc (v : Byte)
  /-- ANDCC: $1C IMM8 (R347). -/
  | andcc (v : Byte)
  /-- SEX: $1D INH (R298). -/
  | sex
  /-- EXG: $1E REGPAIR (R230). -/
  | exg (src : BitVec 4) (dst : BitVec 4)
  /-- TFR: $1F REGPAIR (R229). -/
  | tfr (src : BitVec 4) (dst : BitVec 4)
  /-- BRA: $20 REL8 (R371). -/
  | bra (off : Byte)
  /-- BRN: $21 REL8 (R372). -/
  | brn (off : Byte)
  /-- BHI: $22 REL8 (R373). -/
  | bhi (off : Byte)
  /-- BLS: $23 REL8 (R374). -/
  | bls (off : Byte)
  /-- BCC: $24 REL8 (R375). -/
  | bcc (off : Byte)
  /-- BCS: $25 REL8 (R376). -/
  | bcs (off : Byte)
  /-- BNE: $26 REL8 (R377). -/
  | bne (off : Byte)
  /-- BEQ: $27 REL8 (R378). -/
  | beq (off : Byte)
  /-- BVC: $28 REL8 (R379). -/
  | bvc (off : Byte)
  /-- BVS: $29 REL8 (R380). -/
  | bvs (off : Byte)
  /-- BPL: $2A REL8 (R381). -/
  | bpl (off : Byte)
  /-- BMI: $2B REL8 (R382). -/
  | bmi (off : Byte)
  /-- BGE: $2C REL8 (R383). -/
  | bge (off : Byte)
  /-- BLT: $2D REL8 (R384). -/
  | blt (off : Byte)
  /-- BGT: $2E REL8 (R385). -/
  | bgt (off : Byte)
  /-- BLE: $2F REL8 (R386). -/
  | ble (off : Byte)
  /-- LEAX: $30 IDX (R225). -/
  | leax (m : Indexed)
  /-- LEAY: $31 IDX (R226). -/
  | leay (m : Indexed)
  /-- LEAS: $32 IDX (R227). -/
  | leas (m : Indexed)
  /-- LEAU: $33 IDX (R228). -/
  | leau (m : Indexed)
  /-- PSHS: $34 REGLIST (R421). -/
  | pshs (mask : Byte)
  /-- PULS: $35 REGLIST (R422). -/
  | puls (mask : Byte)
  /-- PSHU: $36 REGLIST (R423). -/
  | pshu (mask : Byte)
  /-- PULU: $37 REGLIST (R424). -/
  | pulu (mask : Byte)
  /-- RTS: $39 INH (R407). -/
  | rts
  /-- ABX: $3A INH (R299). -/
  | abx
  /-- RTI: $3B INH (R428). -/
  | rti
  /-- CWAI: $3C IMM8 (R429). -/
  | cwai (v : Byte)
  /-- MUL: $3D INH (R296). -/
  | mul
  /-- SWI: $3F INH (R425). -/
  | swi
  /-- NEGA: $40 INH (R282). -/
  | nega
  /-- COMA: $43 INH (R330). -/
  | coma
  /-- LSRA: $44 INH (R333). -/
  | lsra
  /-- RORA: $46 INH (R345). -/
  | rora
  /-- ASRA: $47 INH (R336). -/
  | asra
  /-- ASLA: $48 INH (R339). -/
  | asla
  /-- ROLA: $49 INH (R342). -/
  | rola
  /-- DECA: $4A INH (R288). -/
  | deca
  /-- INCA: $4C INH (R285). -/
  | inca
  /-- TSTA: $4D INH (R291). -/
  | tsta
  /-- CLRA: $4F INH (R294). -/
  | clra
  /-- NEGB: $50 INH (R283). -/
  | negb
  /-- COMB: $53 INH (R331). -/
  | comb
  /-- LSRB: $54 INH (R334). -/
  | lsrb
  /-- RORB: $56 INH (R346). -/
  | rorb
  /-- ASRB: $57 INH (R337). -/
  | asrb
  /-- ASLB: $58 INH (R340). -/
  | aslb
  /-- ROLB: $59 INH (R343). -/
  | rolb
  /-- DECB: $5A INH (R289). -/
  | decb
  /-- INCB: $5C INH (R286). -/
  | incb
  /-- TSTB: $5D INH (R292). -/
  | tstb
  /-- CLRB: $5F INH (R295). -/
  | clrb
  /-- SUBA: $80 IMM8, $90 DIR, $A0 IDX, $B0 EXT (R268). -/
  | suba (m : Src8)
  /-- CMPA: $81 IMM8, $91 DIR, $A1 IDX, $B1 EXT (R272). -/
  | cmpa (m : Src8)
  /-- SBCA: $82 IMM8, $92 DIR, $A2 IDX, $B2 EXT (R270). -/
  | sbca (m : Src8)
  /-- SUBD: $83 IMM16, $93 DIR, $A3 IDX, $B3 EXT (R275). -/
  | subd (m : Src16)
  /-- ANDA: $84 IMM8, $94 DIR, $A4 IDX, $B4 EXT (R321). -/
  | anda (m : Src8)
  /-- BITA: $85 IMM8, $95 DIR, $A5 IDX, $B5 EXT (R327). -/
  | bita (m : Src8)
  /-- LDA: $86 IMM8, $96 DIR, $A6 IDX, $B6 EXT (R211). -/
  | lda (m : Src8)
  /-- EORA: $88 IMM8, $98 DIR, $A8 IDX, $B8 EXT (R325). -/
  | eora (m : Src8)
  /-- ADCA: $89 IMM8, $99 DIR, $A9 IDX, $B9 EXT (R266). -/
  | adca (m : Src8)
  /-- ORA: $8A IMM8, $9A DIR, $AA IDX, $BA EXT (R323). -/
  | ora (m : Src8)
  /-- ADDA: $8B IMM8, $9B DIR, $AB IDX, $BB EXT (R264). -/
  | adda (m : Src8)
  /-- CMPX: $8C IMM16, $9C DIR, $AC IDX, $BC EXT (R277). -/
  | cmpx (m : Src16)
  /-- BSR: $8D REL8 (R403). -/
  | bsr (off : Byte)
  /-- LDX: $8E IMM16, $9E DIR, $AE IDX, $BE EXT (R214). -/
  | ldx (m : Src16)
  /-- STA: $97 DIR, $A7 IDX, $B7 EXT (R218). -/
  | sta (e : MemForm)
  /-- JSR: $9D DIR, $AD IDX, $BD EXT (R406). -/
  | jsr (e : MemForm)
  /-- STX: $9F DIR, $AF IDX, $BF EXT (R221). -/
  | stx (e : MemForm)
  /-- SUBB: $C0 IMM8, $D0 DIR, $E0 IDX, $F0 EXT (R269). -/
  | subb (m : Src8)
  /-- CMPB: $C1 IMM8, $D1 DIR, $E1 IDX, $F1 EXT (R273). -/
  | cmpb (m : Src8)
  /-- SBCB: $C2 IMM8, $D2 DIR, $E2 IDX, $F2 EXT (R271). -/
  | sbcb (m : Src8)
  /-- ADDD: $C3 IMM16, $D3 DIR, $E3 IDX, $F3 EXT (R274). -/
  | addd (m : Src16)
  /-- ANDB: $C4 IMM8, $D4 DIR, $E4 IDX, $F4 EXT (R322). -/
  | andb (m : Src8)
  /-- BITB: $C5 IMM8, $D5 DIR, $E5 IDX, $F5 EXT (R328). -/
  | bitb (m : Src8)
  /-- LDB: $C6 IMM8, $D6 DIR, $E6 IDX, $F6 EXT (R212). -/
  | ldb (m : Src8)
  /-- EORB: $C8 IMM8, $D8 DIR, $E8 IDX, $F8 EXT (R326). -/
  | eorb (m : Src8)
  /-- ADCB: $C9 IMM8, $D9 DIR, $E9 IDX, $F9 EXT (R267). -/
  | adcb (m : Src8)
  /-- ORB: $CA IMM8, $DA DIR, $EA IDX, $FA EXT (R324). -/
  | orb (m : Src8)
  /-- ADDB: $CB IMM8, $DB DIR, $EB IDX, $FB EXT (R265). -/
  | addb (m : Src8)
  /-- LDD: $CC IMM16, $DC DIR, $EC IDX, $FC EXT (R213). -/
  | ldd (m : Src16)
  /-- LDU: $CE IMM16, $DE DIR, $EE IDX, $FE EXT (R216). -/
  | ldu (m : Src16)
  /-- STB: $D7 DIR, $E7 IDX, $F7 EXT (R219). -/
  | stb (e : MemForm)
  /-- STD: $DD DIR, $ED IDX, $FD EXT (R220). -/
  | std (e : MemForm)
  /-- STU: $DF DIR, $EF IDX, $FF EXT (R223). -/
  | stu (e : MemForm)
  /-- LBRN: $1021 REL16 (R388). -/
  | lbrn (off : Word)
  /-- LBHI: $1022 REL16 (R389). -/
  | lbhi (off : Word)
  /-- LBLS: $1023 REL16 (R390). -/
  | lbls (off : Word)
  /-- LBCC: $1024 REL16 (R391). -/
  | lbcc (off : Word)
  /-- LBCS: $1025 REL16 (R392). -/
  | lbcs (off : Word)
  /-- LBNE: $1026 REL16 (R393). -/
  | lbne (off : Word)
  /-- LBEQ: $1027 REL16 (R394). -/
  | lbeq (off : Word)
  /-- LBVC: $1028 REL16 (R395). -/
  | lbvc (off : Word)
  /-- LBVS: $1029 REL16 (R396). -/
  | lbvs (off : Word)
  /-- LBPL: $102A REL16 (R397). -/
  | lbpl (off : Word)
  /-- LBMI: $102B REL16 (R398). -/
  | lbmi (off : Word)
  /-- LBGE: $102C REL16 (R399). -/
  | lbge (off : Word)
  /-- LBLT: $102D REL16 (R400). -/
  | lblt (off : Word)
  /-- LBGT: $102E REL16 (R401). -/
  | lbgt (off : Word)
  /-- LBLE: $102F REL16 (R402). -/
  | lble (off : Word)
  /-- SWI2: $103F INH (R426). -/
  | swi2
  /-- CMPD: $1083 IMM16, $1093 DIR, $10A3 IDX, $10B3 EXT (R276). -/
  | cmpd (m : Src16)
  /-- CMPY: $108C IMM16, $109C DIR, $10AC IDX, $10BC EXT (R278). -/
  | cmpy (m : Src16)
  /-- LDY: $108E IMM16, $109E DIR, $10AE IDX, $10BE EXT (R215). -/
  | ldy (m : Src16)
  /-- STY: $109F DIR, $10AF IDX, $10BF EXT (R222). -/
  | sty (e : MemForm)
  /-- LDS: $10CE IMM16, $10DE DIR, $10EE IDX, $10FE EXT (R217). -/
  | lds (m : Src16)
  /-- STS: $10DF DIR, $10EF IDX, $10FF EXT (R224). -/
  | sts (e : MemForm)
  /-- SWI3: $113F INH (R427). -/
  | swi3
  /-- CMPU: $1183 IMM16, $1193 DIR, $11A3 IDX, $11B3 EXT (R279). -/
  | cmpu (m : Src16)
  /-- CMPS: $118C IMM16, $119C DIR, $11AC IDX, $11BC EXT (R280). -/
  | cmps (m : Src16)
  deriving DecidableEq, Repr

end Sys2Proof
end

