-- ==== Sys2Proof/Decode.lean ====
section
/-! DEFINITION. The decoder and the encoder (30_encoding.md R130 to R149, 40_addressing_modes.md R179 to R196),
and the byte helpers both sides of the model use. The decoder is a `Reader`: it asks for one byte at a time, so that
the same definition decodes a list of bytes and drives the machine's fetches, which read exactly the bytes the
instruction has, in order (20_memory.md R89). -/

namespace Sys2Proof

/-! ### Byte helpers (00_scope.md R12, 20_memory.md R85) -/

/-- `hi(w)`, bits 15:8 (R12). -/
def hiByte (w : Word) : Byte := w.extractLsb' 8 8

/-- `lo(w)`, bits 7:0 (R12). -/
def loByte (w : Word) : Byte := w.extractLsb' 0 8

/-- `h ++ l`, the word whose high byte is `h` (R12, R85). -/
def joinBytes (h l : Byte) : Word := h ++ l

/-- `sext_16` of a byte: sign-extended from bit 7 (R12, 30_encoding.md R144). -/
def sext8 (v : Byte) : Word := v.signExtend 16

/-- `sext_16` of a 5-bit field: sign-extended from bit 4 (R12, 30_encoding.md R144). -/
def sext5 (v : BitVec 5) : Word := v.signExtend 16

/-- `zext_16` of a byte (R12). -/
def zext8 (v : Byte) : Word := v.setWidth 16

/-! ### Readers -/

/-- Why the decoder rejects (60_exceptions.md R522, R525). -/
inductive Reject
  /-- The key is not mapped (R522). -/
  | invalidOpcode (key : Word)
  /-- The indexed postbyte is one of the 39 invalid ones (40_addressing_modes.md R195). -/
  | invalidPostbyte (pb : Byte)
  deriving DecidableEq, Repr

/-- A decoder under way: it has its answer, or it asks for the next byte of the instruction. -/
inductive Reader
  | done (r : Except Reject Instr)
  | more (k : Byte → Reader)

/-- Ask for one byte (30_encoding.md R135, R137, R140, R143). -/
def byteReader (f : Byte → Instr) : Reader := .more fun v => .done (.ok (f v))

/-- Ask for a big-endian word (30_encoding.md R136, R138, R141, R144). -/
def wordReader (f : Word → Instr) : Reader :=
  .more fun h => .more fun l => .done (.ok (f (joinBytes h l)))

/-- Ask for the register-pair postbyte of TFR and EXG: source code in bits 7:4, destination code in bits 3:0
(30_encoding.md R142). -/
def pairReader (f : BitVec 4 → BitVec 4 → Instr) : Reader :=
  .more fun p => .done (.ok (f (p.extractLsb' 4 4) (p.extractLsb' 0 4)))

/-! ### Indexed postbytes (40_addressing_modes.md R179 to R196) -/

/-- `rr`, bits 6:5 of the postbyte (R179). -/
def IdxReg.code : IdxReg → BitVec 2
  | .x => 0
  | .y => 1
  | .u => 2
  | .s => 3

/-- The base register of a code (R179). -/
def IdxReg.ofCode (c : BitVec 2) : IdxReg :=
  match c.toNat with
  | 0 => .x
  | 1 => .y
  | 2 => .u
  | _ => .s

/-- The indexed handler's reading of the postbyte and its extension bytes (R179, R195, R196): the validity check
comes before any extension byte is consumed. -/
def indexedReader (f : Indexed → Instr) : Reader :=
  .more fun pb =>
    let r := IdxReg.ofCode (pb.extractLsb' 5 2)
    let ind := pb.getLsbD 4
    let bad : Reader := .done (.error (.invalidPostbyte pb))
    if pb.getLsbD 7 = false then .done (.ok (f (.off5 r (pb.extractLsb' 0 5))))
    else
      match (pb.extractLsb' 0 4).toNat with
      | 0x0 => if ind then bad else .done (.ok (f (.postInc1 r)))
      | 0x1 => .done (.ok (f (.reg r ind .postInc2)))
      | 0x2 => if ind then bad else .done (.ok (f (.preDec1 r)))
      | 0x3 => .done (.ok (f (.reg r ind .preDec2)))
      | 0x4 => .done (.ok (f (.reg r ind .zero)))
      | 0x5 => .done (.ok (f (.reg r ind .accB)))
      | 0x6 => .done (.ok (f (.reg r ind .accA)))
      | 0x8 => byteReader fun n => f (.reg r ind (.off8 n))
      | 0x9 => wordReader fun n => f (.reg r ind (.off16 n))
      | 0xB => .done (.ok (f (.reg r ind .accD)))
      | 0xC => byteReader fun n => f (.pcr8 r ind n)
      | 0xD => wordReader fun n => f (.pcr16 r ind n)
      | 0xF => if pb = 0x9F then wordReader fun a => f (.extInd a) else bad
      | _ => bad

/-! ### The opcode map (30_encoding.md R146) -/

/-- What follows the opcode bytes (30_encoding.md R133 to R143). -/
inductive Shape
  /-- INH (R134). -/
  | inh (i : Instr)
  /-- One operand byte: IMM8, DIR, REL8, REGLIST (R135, R137, R140, R143). -/
  | byte (f : Byte → Instr)
  /-- A big-endian word: IMM16, EXT, REL16 (R136, R138, R141). -/
  | word (f : Word → Instr)
  /-- REGPAIR (R142). -/
  | pair (f : BitVec 4 → BitVec 4 → Instr)
  /-- IDX (R139). -/
  | indexed (f : Indexed → Instr)

/-- The reader of the operand bytes of a shape. -/
def Shape.reader : Shape → Reader
  | .inh i => .done (.ok i)
  | .byte f => byteReader f
  | .word f => wordReader f
  | .pair f => pairReader f
  | .indexed f => indexedReader f

/-- A row of the map: the key, the base cycle count that seeds `busy`, and what follows the opcode bytes. -/
structure OpRow where
  key : Nat
  cycles : Nat
  shape : Shape

/-- Page 1, keys $00 to $1F (30_encoding.md R146). -/
def page1Rows01 : List OpRow :=
  [⟨0x0000, 6, .byte fun lo => .neg (.dir lo)⟩, ⟨0x0003, 6, .byte fun lo => .com (.dir lo)⟩,
   ⟨0x0004, 6, .byte fun lo => .lsr (.dir lo)⟩, ⟨0x0006, 6, .byte fun lo => .ror (.dir lo)⟩,
   ⟨0x0007, 6, .byte fun lo => .asr (.dir lo)⟩, ⟨0x0008, 6, .byte fun lo => .asl (.dir lo)⟩,
   ⟨0x0009, 6, .byte fun lo => .rol (.dir lo)⟩, ⟨0x000A, 6, .byte fun lo => .dec (.dir lo)⟩,
   ⟨0x000C, 6, .byte fun lo => .inc (.dir lo)⟩, ⟨0x000D, 6, .byte fun lo => .tst (.dir lo)⟩,
   ⟨0x000E, 3, .byte fun lo => .jmp (.dir lo)⟩, ⟨0x000F, 6, .byte fun lo => .clr (.dir lo)⟩,
   ⟨0x0012, 2, .inh .nop⟩, ⟨0x0013, 4, .inh .sync⟩,
   ⟨0x0016, 5, .word .lbra⟩, ⟨0x0017, 9, .word .lbsr⟩,
   ⟨0x0019, 2, .inh .daa⟩, ⟨0x001A, 3, .byte .orcc⟩,
   ⟨0x001C, 3, .byte .andcc⟩, ⟨0x001D, 2, .inh .sex⟩,
   ⟨0x001E, 8, .pair .exg⟩, ⟨0x001F, 6, .pair .tfr⟩]

/-- Page 1, keys $20 to $3F (30_encoding.md R146). -/
def page1Rows23 : List OpRow :=
  [⟨0x0020, 3, .byte .bra⟩, ⟨0x0021, 3, .byte .brn⟩,
   ⟨0x0022, 3, .byte .bhi⟩, ⟨0x0023, 3, .byte .bls⟩,
   ⟨0x0024, 3, .byte .bcc⟩, ⟨0x0025, 3, .byte .bcs⟩,
   ⟨0x0026, 3, .byte .bne⟩, ⟨0x0027, 3, .byte .beq⟩,
   ⟨0x0028, 3, .byte .bvc⟩, ⟨0x0029, 3, .byte .bvs⟩,
   ⟨0x002A, 3, .byte .bpl⟩, ⟨0x002B, 3, .byte .bmi⟩,
   ⟨0x002C, 3, .byte .bge⟩, ⟨0x002D, 3, .byte .blt⟩,
   ⟨0x002E, 3, .byte .bgt⟩, ⟨0x002F, 3, .byte .ble⟩,
   ⟨0x0030, 4, .indexed .leax⟩, ⟨0x0031, 4, .indexed .leay⟩,
   ⟨0x0032, 4, .indexed .leas⟩, ⟨0x0033, 4, .indexed .leau⟩,
   ⟨0x0034, 5, .byte .pshs⟩, ⟨0x0035, 5, .byte .puls⟩,
   ⟨0x0036, 5, .byte .pshu⟩, ⟨0x0037, 5, .byte .pulu⟩,
   ⟨0x0039, 5, .inh .rts⟩, ⟨0x003A, 3, .inh .abx⟩,
   ⟨0x003B, 6, .inh .rti⟩, ⟨0x003C, 20, .byte .cwai⟩,
   ⟨0x003D, 11, .inh .mul⟩, ⟨0x003F, 19, .inh .swi⟩]

/-- Page 1, keys $40 to $5F (30_encoding.md R146). -/
def page1Rows45 : List OpRow :=
  [⟨0x0040, 2, .inh .nega⟩, ⟨0x0043, 2, .inh .coma⟩,
   ⟨0x0044, 2, .inh .lsra⟩, ⟨0x0046, 2, .inh .rora⟩,
   ⟨0x0047, 2, .inh .asra⟩, ⟨0x0048, 2, .inh .asla⟩,
   ⟨0x0049, 2, .inh .rola⟩, ⟨0x004A, 2, .inh .deca⟩,
   ⟨0x004C, 2, .inh .inca⟩, ⟨0x004D, 2, .inh .tsta⟩,
   ⟨0x004F, 2, .inh .clra⟩, ⟨0x0050, 2, .inh .negb⟩,
   ⟨0x0053, 2, .inh .comb⟩, ⟨0x0054, 2, .inh .lsrb⟩,
   ⟨0x0056, 2, .inh .rorb⟩, ⟨0x0057, 2, .inh .asrb⟩,
   ⟨0x0058, 2, .inh .aslb⟩, ⟨0x0059, 2, .inh .rolb⟩,
   ⟨0x005A, 2, .inh .decb⟩, ⟨0x005C, 2, .inh .incb⟩,
   ⟨0x005D, 2, .inh .tstb⟩, ⟨0x005F, 2, .inh .clrb⟩]

/-- Page 1, keys $60 to $7F (30_encoding.md R146). -/
def page1Rows67 : List OpRow :=
  [⟨0x0060, 6, .indexed fun m => .neg (.idx m)⟩, ⟨0x0063, 6, .indexed fun m => .com (.idx m)⟩,
   ⟨0x0064, 6, .indexed fun m => .lsr (.idx m)⟩, ⟨0x0066, 6, .indexed fun m => .ror (.idx m)⟩,
   ⟨0x0067, 6, .indexed fun m => .asr (.idx m)⟩, ⟨0x0068, 6, .indexed fun m => .asl (.idx m)⟩,
   ⟨0x0069, 6, .indexed fun m => .rol (.idx m)⟩, ⟨0x006A, 6, .indexed fun m => .dec (.idx m)⟩,
   ⟨0x006C, 6, .indexed fun m => .inc (.idx m)⟩, ⟨0x006D, 6, .indexed fun m => .tst (.idx m)⟩,
   ⟨0x006E, 3, .indexed fun m => .jmp (.idx m)⟩, ⟨0x006F, 6, .indexed fun m => .clr (.idx m)⟩,
   ⟨0x0070, 7, .word fun addr => .neg (.ext addr)⟩, ⟨0x0073, 7, .word fun addr => .com (.ext addr)⟩,
   ⟨0x0074, 7, .word fun addr => .lsr (.ext addr)⟩, ⟨0x0076, 7, .word fun addr => .ror (.ext addr)⟩,
   ⟨0x0077, 7, .word fun addr => .asr (.ext addr)⟩, ⟨0x0078, 7, .word fun addr => .asl (.ext addr)⟩,
   ⟨0x0079, 7, .word fun addr => .rol (.ext addr)⟩, ⟨0x007A, 7, .word fun addr => .dec (.ext addr)⟩,
   ⟨0x007C, 7, .word fun addr => .inc (.ext addr)⟩, ⟨0x007D, 7, .word fun addr => .tst (.ext addr)⟩,
   ⟨0x007E, 4, .word fun addr => .jmp (.ext addr)⟩, ⟨0x007F, 7, .word fun addr => .clr (.ext addr)⟩]

/-- Page 1, keys $80 to $9F (30_encoding.md R146). -/
def page1Rows89 : List OpRow :=
  [⟨0x0080, 2, .byte fun v => .suba (.imm v)⟩, ⟨0x0081, 2, .byte fun v => .cmpa (.imm v)⟩,
   ⟨0x0082, 2, .byte fun v => .sbca (.imm v)⟩, ⟨0x0083, 4, .word fun v => .subd (.imm v)⟩,
   ⟨0x0084, 2, .byte fun v => .anda (.imm v)⟩, ⟨0x0085, 2, .byte fun v => .bita (.imm v)⟩,
   ⟨0x0086, 2, .byte fun v => .lda (.imm v)⟩, ⟨0x0088, 2, .byte fun v => .eora (.imm v)⟩,
   ⟨0x0089, 2, .byte fun v => .adca (.imm v)⟩, ⟨0x008A, 2, .byte fun v => .ora (.imm v)⟩,
   ⟨0x008B, 2, .byte fun v => .adda (.imm v)⟩, ⟨0x008C, 4, .word fun v => .cmpx (.imm v)⟩,
   ⟨0x008D, 7, .byte .bsr⟩, ⟨0x008E, 3, .word fun v => .ldx (.imm v)⟩,
   ⟨0x0090, 4, .byte fun lo => .suba (.mem (.dir lo))⟩, ⟨0x0091, 4, .byte fun lo => .cmpa (.mem (.dir lo))⟩,
   ⟨0x0092, 4, .byte fun lo => .sbca (.mem (.dir lo))⟩, ⟨0x0093, 6, .byte fun lo => .subd (.mem (.dir lo))⟩,
   ⟨0x0094, 4, .byte fun lo => .anda (.mem (.dir lo))⟩, ⟨0x0095, 4, .byte fun lo => .bita (.mem (.dir lo))⟩,
   ⟨0x0096, 4, .byte fun lo => .lda (.mem (.dir lo))⟩, ⟨0x0097, 4, .byte fun lo => .sta (.dir lo)⟩,
   ⟨0x0098, 4, .byte fun lo => .eora (.mem (.dir lo))⟩, ⟨0x0099, 4, .byte fun lo => .adca (.mem (.dir lo))⟩,
   ⟨0x009A, 4, .byte fun lo => .ora (.mem (.dir lo))⟩, ⟨0x009B, 4, .byte fun lo => .adda (.mem (.dir lo))⟩,
   ⟨0x009C, 6, .byte fun lo => .cmpx (.mem (.dir lo))⟩, ⟨0x009D, 7, .byte fun lo => .jsr (.dir lo)⟩,
   ⟨0x009E, 5, .byte fun lo => .ldx (.mem (.dir lo))⟩, ⟨0x009F, 5, .byte fun lo => .stx (.dir lo)⟩]

/-- Page 1, keys $A0 to $BF (30_encoding.md R146). -/
def page1RowsAB : List OpRow :=
  [⟨0x00A0, 4, .indexed fun m => .suba (.mem (.idx m))⟩, ⟨0x00A1, 4, .indexed fun m => .cmpa (.mem (.idx m))⟩,
   ⟨0x00A2, 4, .indexed fun m => .sbca (.mem (.idx m))⟩, ⟨0x00A3, 6, .indexed fun m => .subd (.mem (.idx m))⟩,
   ⟨0x00A4, 4, .indexed fun m => .anda (.mem (.idx m))⟩, ⟨0x00A5, 4, .indexed fun m => .bita (.mem (.idx m))⟩,
   ⟨0x00A6, 4, .indexed fun m => .lda (.mem (.idx m))⟩, ⟨0x00A7, 4, .indexed fun m => .sta (.idx m)⟩,
   ⟨0x00A8, 4, .indexed fun m => .eora (.mem (.idx m))⟩, ⟨0x00A9, 4, .indexed fun m => .adca (.mem (.idx m))⟩,
   ⟨0x00AA, 4, .indexed fun m => .ora (.mem (.idx m))⟩, ⟨0x00AB, 4, .indexed fun m => .adda (.mem (.idx m))⟩,
   ⟨0x00AC, 6, .indexed fun m => .cmpx (.mem (.idx m))⟩, ⟨0x00AD, 7, .indexed fun m => .jsr (.idx m)⟩,
   ⟨0x00AE, 5, .indexed fun m => .ldx (.mem (.idx m))⟩, ⟨0x00AF, 5, .indexed fun m => .stx (.idx m)⟩,
   ⟨0x00B0, 5, .word fun addr => .suba (.mem (.ext addr))⟩, ⟨0x00B1, 5, .word fun addr => .cmpa (.mem (.ext addr))⟩,
   ⟨0x00B2, 5, .word fun addr => .sbca (.mem (.ext addr))⟩, ⟨0x00B3, 7, .word fun addr => .subd (.mem (.ext addr))⟩,
   ⟨0x00B4, 5, .word fun addr => .anda (.mem (.ext addr))⟩, ⟨0x00B5, 5, .word fun addr => .bita (.mem (.ext addr))⟩,
   ⟨0x00B6, 5, .word fun addr => .lda (.mem (.ext addr))⟩, ⟨0x00B7, 5, .word fun addr => .sta (.ext addr)⟩,
   ⟨0x00B8, 5, .word fun addr => .eora (.mem (.ext addr))⟩, ⟨0x00B9, 5, .word fun addr => .adca (.mem (.ext addr))⟩,
   ⟨0x00BA, 5, .word fun addr => .ora (.mem (.ext addr))⟩, ⟨0x00BB, 5, .word fun addr => .adda (.mem (.ext addr))⟩,
   ⟨0x00BC, 7, .word fun addr => .cmpx (.mem (.ext addr))⟩, ⟨0x00BD, 8, .word fun addr => .jsr (.ext addr)⟩,
   ⟨0x00BE, 6, .word fun addr => .ldx (.mem (.ext addr))⟩, ⟨0x00BF, 6, .word fun addr => .stx (.ext addr)⟩]

/-- Page 1, keys $C0 to $DF (30_encoding.md R146). -/
def page1RowsCD : List OpRow :=
  [⟨0x00C0, 2, .byte fun v => .subb (.imm v)⟩, ⟨0x00C1, 2, .byte fun v => .cmpb (.imm v)⟩,
   ⟨0x00C2, 2, .byte fun v => .sbcb (.imm v)⟩, ⟨0x00C3, 4, .word fun v => .addd (.imm v)⟩,
   ⟨0x00C4, 2, .byte fun v => .andb (.imm v)⟩, ⟨0x00C5, 2, .byte fun v => .bitb (.imm v)⟩,
   ⟨0x00C6, 2, .byte fun v => .ldb (.imm v)⟩, ⟨0x00C8, 2, .byte fun v => .eorb (.imm v)⟩,
   ⟨0x00C9, 2, .byte fun v => .adcb (.imm v)⟩, ⟨0x00CA, 2, .byte fun v => .orb (.imm v)⟩,
   ⟨0x00CB, 2, .byte fun v => .addb (.imm v)⟩, ⟨0x00CC, 3, .word fun v => .ldd (.imm v)⟩,
   ⟨0x00CE, 3, .word fun v => .ldu (.imm v)⟩, ⟨0x00D0, 4, .byte fun lo => .subb (.mem (.dir lo))⟩,
   ⟨0x00D1, 4, .byte fun lo => .cmpb (.mem (.dir lo))⟩, ⟨0x00D2, 4, .byte fun lo => .sbcb (.mem (.dir lo))⟩,
   ⟨0x00D3, 6, .byte fun lo => .addd (.mem (.dir lo))⟩, ⟨0x00D4, 4, .byte fun lo => .andb (.mem (.dir lo))⟩,
   ⟨0x00D5, 4, .byte fun lo => .bitb (.mem (.dir lo))⟩, ⟨0x00D6, 4, .byte fun lo => .ldb (.mem (.dir lo))⟩,
   ⟨0x00D7, 4, .byte fun lo => .stb (.dir lo)⟩, ⟨0x00D8, 4, .byte fun lo => .eorb (.mem (.dir lo))⟩,
   ⟨0x00D9, 4, .byte fun lo => .adcb (.mem (.dir lo))⟩, ⟨0x00DA, 4, .byte fun lo => .orb (.mem (.dir lo))⟩,
   ⟨0x00DB, 4, .byte fun lo => .addb (.mem (.dir lo))⟩, ⟨0x00DC, 5, .byte fun lo => .ldd (.mem (.dir lo))⟩,
   ⟨0x00DD, 5, .byte fun lo => .std (.dir lo)⟩, ⟨0x00DE, 5, .byte fun lo => .ldu (.mem (.dir lo))⟩,
   ⟨0x00DF, 5, .byte fun lo => .stu (.dir lo)⟩]

/-- Page 1, keys $E0 to $FF (30_encoding.md R146). -/
def page1RowsEF : List OpRow :=
  [⟨0x00E0, 4, .indexed fun m => .subb (.mem (.idx m))⟩, ⟨0x00E1, 4, .indexed fun m => .cmpb (.mem (.idx m))⟩,
   ⟨0x00E2, 4, .indexed fun m => .sbcb (.mem (.idx m))⟩, ⟨0x00E3, 6, .indexed fun m => .addd (.mem (.idx m))⟩,
   ⟨0x00E4, 4, .indexed fun m => .andb (.mem (.idx m))⟩, ⟨0x00E5, 4, .indexed fun m => .bitb (.mem (.idx m))⟩,
   ⟨0x00E6, 4, .indexed fun m => .ldb (.mem (.idx m))⟩, ⟨0x00E7, 4, .indexed fun m => .stb (.idx m)⟩,
   ⟨0x00E8, 4, .indexed fun m => .eorb (.mem (.idx m))⟩, ⟨0x00E9, 4, .indexed fun m => .adcb (.mem (.idx m))⟩,
   ⟨0x00EA, 4, .indexed fun m => .orb (.mem (.idx m))⟩, ⟨0x00EB, 4, .indexed fun m => .addb (.mem (.idx m))⟩,
   ⟨0x00EC, 5, .indexed fun m => .ldd (.mem (.idx m))⟩, ⟨0x00ED, 5, .indexed fun m => .std (.idx m)⟩,
   ⟨0x00EE, 5, .indexed fun m => .ldu (.mem (.idx m))⟩, ⟨0x00EF, 5, .indexed fun m => .stu (.idx m)⟩,
   ⟨0x00F0, 5, .word fun addr => .subb (.mem (.ext addr))⟩, ⟨0x00F1, 5, .word fun addr => .cmpb (.mem (.ext addr))⟩,
   ⟨0x00F2, 5, .word fun addr => .sbcb (.mem (.ext addr))⟩, ⟨0x00F3, 7, .word fun addr => .addd (.mem (.ext addr))⟩,
   ⟨0x00F4, 5, .word fun addr => .andb (.mem (.ext addr))⟩, ⟨0x00F5, 5, .word fun addr => .bitb (.mem (.ext addr))⟩,
   ⟨0x00F6, 5, .word fun addr => .ldb (.mem (.ext addr))⟩, ⟨0x00F7, 5, .word fun addr => .stb (.ext addr)⟩,
   ⟨0x00F8, 5, .word fun addr => .eorb (.mem (.ext addr))⟩, ⟨0x00F9, 5, .word fun addr => .adcb (.mem (.ext addr))⟩,
   ⟨0x00FA, 5, .word fun addr => .orb (.mem (.ext addr))⟩, ⟨0x00FB, 5, .word fun addr => .addb (.mem (.ext addr))⟩,
   ⟨0x00FC, 6, .word fun addr => .ldd (.mem (.ext addr))⟩, ⟨0x00FD, 6, .word fun addr => .std (.ext addr)⟩,
   ⟨0x00FE, 6, .word fun addr => .ldu (.mem (.ext addr))⟩, ⟨0x00FF, 6, .word fun addr => .stu (.ext addr)⟩]

/-- Page 2 (30_encoding.md R146). -/
def page2Rows : List OpRow :=
  [⟨0x1021, 5, .word .lbrn⟩, ⟨0x1022, 5, .word .lbhi⟩,
   ⟨0x1023, 5, .word .lbls⟩, ⟨0x1024, 5, .word .lbcc⟩,
   ⟨0x1025, 5, .word .lbcs⟩, ⟨0x1026, 5, .word .lbne⟩,
   ⟨0x1027, 5, .word .lbeq⟩, ⟨0x1028, 5, .word .lbvc⟩,
   ⟨0x1029, 5, .word .lbvs⟩, ⟨0x102A, 5, .word .lbpl⟩,
   ⟨0x102B, 5, .word .lbmi⟩, ⟨0x102C, 5, .word .lbge⟩,
   ⟨0x102D, 5, .word .lblt⟩, ⟨0x102E, 5, .word .lbgt⟩,
   ⟨0x102F, 5, .word .lble⟩, ⟨0x103F, 20, .inh .swi2⟩,
   ⟨0x1083, 5, .word fun v => .cmpd (.imm v)⟩, ⟨0x108C, 5, .word fun v => .cmpy (.imm v)⟩,
   ⟨0x108E, 4, .word fun v => .ldy (.imm v)⟩, ⟨0x1093, 7, .byte fun lo => .cmpd (.mem (.dir lo))⟩,
   ⟨0x109C, 7, .byte fun lo => .cmpy (.mem (.dir lo))⟩, ⟨0x109E, 6, .byte fun lo => .ldy (.mem (.dir lo))⟩,
   ⟨0x109F, 6, .byte fun lo => .sty (.dir lo)⟩, ⟨0x10A3, 7, .indexed fun m => .cmpd (.mem (.idx m))⟩,
   ⟨0x10AC, 7, .indexed fun m => .cmpy (.mem (.idx m))⟩, ⟨0x10AE, 6, .indexed fun m => .ldy (.mem (.idx m))⟩,
   ⟨0x10AF, 6, .indexed fun m => .sty (.idx m)⟩, ⟨0x10B3, 8, .word fun addr => .cmpd (.mem (.ext addr))⟩,
   ⟨0x10BC, 8, .word fun addr => .cmpy (.mem (.ext addr))⟩, ⟨0x10BE, 7, .word fun addr => .ldy (.mem (.ext addr))⟩,
   ⟨0x10BF, 7, .word fun addr => .sty (.ext addr)⟩, ⟨0x10CE, 4, .word fun v => .lds (.imm v)⟩,
   ⟨0x10DE, 6, .byte fun lo => .lds (.mem (.dir lo))⟩, ⟨0x10DF, 6, .byte fun lo => .sts (.dir lo)⟩,
   ⟨0x10EE, 6, .indexed fun m => .lds (.mem (.idx m))⟩, ⟨0x10EF, 6, .indexed fun m => .sts (.idx m)⟩,
   ⟨0x10FE, 7, .word fun addr => .lds (.mem (.ext addr))⟩, ⟨0x10FF, 7, .word fun addr => .sts (.ext addr)⟩]

/-- Page 3 (30_encoding.md R146). -/
def page3Rows : List OpRow :=
  [⟨0x113F, 20, .inh .swi3⟩, ⟨0x1183, 5, .word fun v => .cmpu (.imm v)⟩,
   ⟨0x118C, 5, .word fun v => .cmps (.imm v)⟩, ⟨0x1193, 7, .byte fun lo => .cmpu (.mem (.dir lo))⟩,
   ⟨0x119C, 7, .byte fun lo => .cmps (.mem (.dir lo))⟩, ⟨0x11A3, 7, .indexed fun m => .cmpu (.mem (.idx m))⟩,
   ⟨0x11AC, 7, .indexed fun m => .cmps (.mem (.idx m))⟩, ⟨0x11B3, 8, .word fun addr => .cmpu (.mem (.ext addr))⟩,
   ⟨0x11BC, 8, .word fun addr => .cmps (.mem (.ext addr))⟩]

/-- Page 1: the keys of one byte (30_encoding.md R146). -/
def page1Table : List OpRow :=
  page1Rows01 ++
  page1Rows23 ++
  page1Rows45 ++
  page1Rows67 ++
  page1Rows89 ++
  page1RowsAB ++
  page1RowsCD ++
  page1RowsEF

/-- The opcode map, one row per mapped key (30_encoding.md R131, R146). 92_eei_decisions.md D6 also leaves the table OPEN as
configuration, to which an audit may add rows or remove them (60_exceptions.md R523). DESIGN CHOICE, unsafe if an audit does
so: the 268 rows are a constant here, and no row uses the invalid-mode handler of 40_addressing_modes.md R178 (log 21). -/
def opcodeTable : List OpRow := page1Table ++ page2Rows ++ page3Rows

/-- The rows that a key's page holds (30_encoding.md R131). -/
def pageTable (key : Nat) : List OpRow :=
  if key < 0x100 then page1Table else if key < 0x1100 then page2Rows else page3Rows

/-- Look a key up; none is the source's "miss" (30_encoding.md R131, R147). -/
def lookupKey (key : Nat) : Option OpRow := (pageTable key).find? fun r => r.key == key

/-- The reader after the opcode bytes (30_encoding.md R132). -/
def keyReader (key : Word) : Reader :=
  match lookupKey key.toNat with
  | none => .done (.error (.invalidOpcode key))
  | some row => row.shape.reader

/-- The whole decoder: `FetchOpcode` (30_encoding.md R130, R149), then the row's operand bytes. -/
def decoder : Reader :=
  .more fun b0 =>
    if b0 = 0x10 ∨ b0 = 0x11 then .more fun b1 => keyReader (joinBytes b0 b1)
    else keyReader (zext8 b0)

/-- Why a list of bytes is no instruction. -/
inductive DecodeError
  /-- The list ends inside an instruction. -/
  | truncated
  | rejected (r : Reject)
  deriving DecidableEq, Repr

/-- Run a reader over a list of bytes: the instruction and the bytes after it. -/
def Reader.decodeList : Reader → List Byte → Except DecodeError (Instr × List Byte)
  | .done (.ok i), bs => .ok (i, bs)
  | .done (.error r), _ => .error (.rejected r)
  | .more _, [] => .error .truncated
  | .more k, b :: bs => (k b).decodeList bs

/-- Decode the instruction at the head of a list of bytes. Total: every list gives an instruction or a named error. -/
def decode (bs : List Byte) : Except DecodeError (Instr × List Byte) := decoder.decodeList bs

/-! ### The encoder (30_encoding.md R133 to R146, 40_addressing_modes.md R196) -/

/-- Bits 3:0 of the postbyte of a submode (40_addressing_modes.md R182, R184 to R190). -/
def IdxMode.code : IdxMode → BitVec 4
  | .postInc2 => 0x1
  | .preDec2 => 0x3
  | .zero => 0x4
  | .accB => 0x5
  | .accA => 0x6
  | .off8 _ => 0x8
  | .off16 _ => 0x9
  | .accD => 0xB

/-- The extension bytes of a submode. -/
def IdxMode.ext : IdxMode → List Byte
  | .off8 n => [n]
  | .off16 n => [hiByte n, loByte n]
  | _ => []

/-- A postbyte with bit 7 set: register bits, indirection bit, submode (40_addressing_modes.md R179). -/
def subPostbyte (r : IdxReg) (ind : Bool) (sub : BitVec 4) : Byte :=
  (1#1 ++ r.code : BitVec 3) ++ (BitVec.ofBool ind ++ sub : BitVec 5)

/-- The postbyte of an indexed operand (40_addressing_modes.md R196). -/
def Indexed.postbyte : Indexed → Byte
  | .off5 r n => (0#1 ++ r.code : BitVec 3) ++ n
  | .postInc1 r => subPostbyte r false 0x0
  | .preDec1 r => subPostbyte r false 0x2
  | .reg r ind m => subPostbyte r ind m.code
  | .pcr8 r ind _ => subPostbyte r ind 0xC
  | .pcr16 r ind _ => subPostbyte r ind 0xD
  | .extInd _ => 0x9F

/-- The extension bytes of an indexed operand (40_addressing_modes.md R196). -/
def Indexed.ext : Indexed → List Byte
  | .reg _ _ m => m.ext
  | .pcr8 _ _ n => [n]
  | .pcr16 _ _ n => [hiByte n, loByte n]
  | .extInd a => [hiByte a, loByte a]
  | _ => []

/-- Postbyte and extension bytes. -/
def Indexed.bytes (m : Indexed) : List Byte := m.postbyte :: m.ext

/-- The opcode bytes and the operand bytes of each instruction (30_encoding.md R146, R133 to R143). -/
def Instr.parts : Instr → List Byte × List Byte
  | .neg (.dir lo) => ([0x00], [lo])
  | .com (.dir lo) => ([0x03], [lo])
  | .lsr (.dir lo) => ([0x04], [lo])
  | .ror (.dir lo) => ([0x06], [lo])
  | .asr (.dir lo) => ([0x07], [lo])
  | .asl (.dir lo) => ([0x08], [lo])
  | .rol (.dir lo) => ([0x09], [lo])
  | .dec (.dir lo) => ([0x0A], [lo])
  | .inc (.dir lo) => ([0x0C], [lo])
  | .tst (.dir lo) => ([0x0D], [lo])
  | .jmp (.dir lo) => ([0x0E], [lo])
  | .clr (.dir lo) => ([0x0F], [lo])
  | .nop => ([0x12], [])
  | .sync => ([0x13], [])
  | .lbra off => ([0x16], [hiByte off, loByte off])
  | .lbsr off => ([0x17], [hiByte off, loByte off])
  | .daa => ([0x19], [])
  | .orcc v => ([0x1A], [v])
  | .andcc v => ([0x1C], [v])
  | .sex => ([0x1D], [])
  | .exg src dst => ([0x1E], [src ++ dst])
  | .tfr src dst => ([0x1F], [src ++ dst])
  | .bra off => ([0x20], [off])
  | .brn off => ([0x21], [off])
  | .bhi off => ([0x22], [off])
  | .bls off => ([0x23], [off])
  | .bcc off => ([0x24], [off])
  | .bcs off => ([0x25], [off])
  | .bne off => ([0x26], [off])
  | .beq off => ([0x27], [off])
  | .bvc off => ([0x28], [off])
  | .bvs off => ([0x29], [off])
  | .bpl off => ([0x2A], [off])
  | .bmi off => ([0x2B], [off])
  | .bge off => ([0x2C], [off])
  | .blt off => ([0x2D], [off])
  | .bgt off => ([0x2E], [off])
  | .ble off => ([0x2F], [off])
  | .leax m => ([0x30], m.bytes)
  | .leay m => ([0x31], m.bytes)
  | .leas m => ([0x32], m.bytes)
  | .leau m => ([0x33], m.bytes)
  | .pshs mask => ([0x34], [mask])
  | .puls mask => ([0x35], [mask])
  | .pshu mask => ([0x36], [mask])
  | .pulu mask => ([0x37], [mask])
  | .rts => ([0x39], [])
  | .abx => ([0x3A], [])
  | .rti => ([0x3B], [])
  | .cwai v => ([0x3C], [v])
  | .mul => ([0x3D], [])
  | .swi => ([0x3F], [])
  | .nega => ([0x40], [])
  | .coma => ([0x43], [])
  | .lsra => ([0x44], [])
  | .rora => ([0x46], [])
  | .asra => ([0x47], [])
  | .asla => ([0x48], [])
  | .rola => ([0x49], [])
  | .deca => ([0x4A], [])
  | .inca => ([0x4C], [])
  | .tsta => ([0x4D], [])
  | .clra => ([0x4F], [])
  | .negb => ([0x50], [])
  | .comb => ([0x53], [])
  | .lsrb => ([0x54], [])
  | .rorb => ([0x56], [])
  | .asrb => ([0x57], [])
  | .aslb => ([0x58], [])
  | .rolb => ([0x59], [])
  | .decb => ([0x5A], [])
  | .incb => ([0x5C], [])
  | .tstb => ([0x5D], [])
  | .clrb => ([0x5F], [])
  | .neg (.idx m) => ([0x60], m.bytes)
  | .com (.idx m) => ([0x63], m.bytes)
  | .lsr (.idx m) => ([0x64], m.bytes)
  | .ror (.idx m) => ([0x66], m.bytes)
  | .asr (.idx m) => ([0x67], m.bytes)
  | .asl (.idx m) => ([0x68], m.bytes)
  | .rol (.idx m) => ([0x69], m.bytes)
  | .dec (.idx m) => ([0x6A], m.bytes)
  | .inc (.idx m) => ([0x6C], m.bytes)
  | .tst (.idx m) => ([0x6D], m.bytes)
  | .jmp (.idx m) => ([0x6E], m.bytes)
  | .clr (.idx m) => ([0x6F], m.bytes)
  | .neg (.ext addr) => ([0x70], [hiByte addr, loByte addr])
  | .com (.ext addr) => ([0x73], [hiByte addr, loByte addr])
  | .lsr (.ext addr) => ([0x74], [hiByte addr, loByte addr])
  | .ror (.ext addr) => ([0x76], [hiByte addr, loByte addr])
  | .asr (.ext addr) => ([0x77], [hiByte addr, loByte addr])
  | .asl (.ext addr) => ([0x78], [hiByte addr, loByte addr])
  | .rol (.ext addr) => ([0x79], [hiByte addr, loByte addr])
  | .dec (.ext addr) => ([0x7A], [hiByte addr, loByte addr])
  | .inc (.ext addr) => ([0x7C], [hiByte addr, loByte addr])
  | .tst (.ext addr) => ([0x7D], [hiByte addr, loByte addr])
  | .jmp (.ext addr) => ([0x7E], [hiByte addr, loByte addr])
  | .clr (.ext addr) => ([0x7F], [hiByte addr, loByte addr])
  | .suba (.imm v) => ([0x80], [v])
  | .cmpa (.imm v) => ([0x81], [v])
  | .sbca (.imm v) => ([0x82], [v])
  | .subd (.imm v) => ([0x83], [hiByte v, loByte v])
  | .anda (.imm v) => ([0x84], [v])
  | .bita (.imm v) => ([0x85], [v])
  | .lda (.imm v) => ([0x86], [v])
  | .eora (.imm v) => ([0x88], [v])
  | .adca (.imm v) => ([0x89], [v])
  | .ora (.imm v) => ([0x8A], [v])
  | .adda (.imm v) => ([0x8B], [v])
  | .cmpx (.imm v) => ([0x8C], [hiByte v, loByte v])
  | .bsr off => ([0x8D], [off])
  | .ldx (.imm v) => ([0x8E], [hiByte v, loByte v])
  | .suba (.mem (.dir lo)) => ([0x90], [lo])
  | .cmpa (.mem (.dir lo)) => ([0x91], [lo])
  | .sbca (.mem (.dir lo)) => ([0x92], [lo])
  | .subd (.mem (.dir lo)) => ([0x93], [lo])
  | .anda (.mem (.dir lo)) => ([0x94], [lo])
  | .bita (.mem (.dir lo)) => ([0x95], [lo])
  | .lda (.mem (.dir lo)) => ([0x96], [lo])
  | .sta (.dir lo) => ([0x97], [lo])
  | .eora (.mem (.dir lo)) => ([0x98], [lo])
  | .adca (.mem (.dir lo)) => ([0x99], [lo])
  | .ora (.mem (.dir lo)) => ([0x9A], [lo])
  | .adda (.mem (.dir lo)) => ([0x9B], [lo])
  | .cmpx (.mem (.dir lo)) => ([0x9C], [lo])
  | .jsr (.dir lo) => ([0x9D], [lo])
  | .ldx (.mem (.dir lo)) => ([0x9E], [lo])
  | .stx (.dir lo) => ([0x9F], [lo])
  | .suba (.mem (.idx m)) => ([0xA0], m.bytes)
  | .cmpa (.mem (.idx m)) => ([0xA1], m.bytes)
  | .sbca (.mem (.idx m)) => ([0xA2], m.bytes)
  | .subd (.mem (.idx m)) => ([0xA3], m.bytes)
  | .anda (.mem (.idx m)) => ([0xA4], m.bytes)
  | .bita (.mem (.idx m)) => ([0xA5], m.bytes)
  | .lda (.mem (.idx m)) => ([0xA6], m.bytes)
  | .sta (.idx m) => ([0xA7], m.bytes)
  | .eora (.mem (.idx m)) => ([0xA8], m.bytes)
  | .adca (.mem (.idx m)) => ([0xA9], m.bytes)
  | .ora (.mem (.idx m)) => ([0xAA], m.bytes)
  | .adda (.mem (.idx m)) => ([0xAB], m.bytes)
  | .cmpx (.mem (.idx m)) => ([0xAC], m.bytes)
  | .jsr (.idx m) => ([0xAD], m.bytes)
  | .ldx (.mem (.idx m)) => ([0xAE], m.bytes)
  | .stx (.idx m) => ([0xAF], m.bytes)
  | .suba (.mem (.ext addr)) => ([0xB0], [hiByte addr, loByte addr])
  | .cmpa (.mem (.ext addr)) => ([0xB1], [hiByte addr, loByte addr])
  | .sbca (.mem (.ext addr)) => ([0xB2], [hiByte addr, loByte addr])
  | .subd (.mem (.ext addr)) => ([0xB3], [hiByte addr, loByte addr])
  | .anda (.mem (.ext addr)) => ([0xB4], [hiByte addr, loByte addr])
  | .bita (.mem (.ext addr)) => ([0xB5], [hiByte addr, loByte addr])
  | .lda (.mem (.ext addr)) => ([0xB6], [hiByte addr, loByte addr])
  | .sta (.ext addr) => ([0xB7], [hiByte addr, loByte addr])
  | .eora (.mem (.ext addr)) => ([0xB8], [hiByte addr, loByte addr])
  | .adca (.mem (.ext addr)) => ([0xB9], [hiByte addr, loByte addr])
  | .ora (.mem (.ext addr)) => ([0xBA], [hiByte addr, loByte addr])
  | .adda (.mem (.ext addr)) => ([0xBB], [hiByte addr, loByte addr])
  | .cmpx (.mem (.ext addr)) => ([0xBC], [hiByte addr, loByte addr])
  | .jsr (.ext addr) => ([0xBD], [hiByte addr, loByte addr])
  | .ldx (.mem (.ext addr)) => ([0xBE], [hiByte addr, loByte addr])
  | .stx (.ext addr) => ([0xBF], [hiByte addr, loByte addr])
  | .subb (.imm v) => ([0xC0], [v])
  | .cmpb (.imm v) => ([0xC1], [v])
  | .sbcb (.imm v) => ([0xC2], [v])
  | .addd (.imm v) => ([0xC3], [hiByte v, loByte v])
  | .andb (.imm v) => ([0xC4], [v])
  | .bitb (.imm v) => ([0xC5], [v])
  | .ldb (.imm v) => ([0xC6], [v])
  | .eorb (.imm v) => ([0xC8], [v])
  | .adcb (.imm v) => ([0xC9], [v])
  | .orb (.imm v) => ([0xCA], [v])
  | .addb (.imm v) => ([0xCB], [v])
  | .ldd (.imm v) => ([0xCC], [hiByte v, loByte v])
  | .ldu (.imm v) => ([0xCE], [hiByte v, loByte v])
  | .subb (.mem (.dir lo)) => ([0xD0], [lo])
  | .cmpb (.mem (.dir lo)) => ([0xD1], [lo])
  | .sbcb (.mem (.dir lo)) => ([0xD2], [lo])
  | .addd (.mem (.dir lo)) => ([0xD3], [lo])
  | .andb (.mem (.dir lo)) => ([0xD4], [lo])
  | .bitb (.mem (.dir lo)) => ([0xD5], [lo])
  | .ldb (.mem (.dir lo)) => ([0xD6], [lo])
  | .stb (.dir lo) => ([0xD7], [lo])
  | .eorb (.mem (.dir lo)) => ([0xD8], [lo])
  | .adcb (.mem (.dir lo)) => ([0xD9], [lo])
  | .orb (.mem (.dir lo)) => ([0xDA], [lo])
  | .addb (.mem (.dir lo)) => ([0xDB], [lo])
  | .ldd (.mem (.dir lo)) => ([0xDC], [lo])
  | .std (.dir lo) => ([0xDD], [lo])
  | .ldu (.mem (.dir lo)) => ([0xDE], [lo])
  | .stu (.dir lo) => ([0xDF], [lo])
  | .subb (.mem (.idx m)) => ([0xE0], m.bytes)
  | .cmpb (.mem (.idx m)) => ([0xE1], m.bytes)
  | .sbcb (.mem (.idx m)) => ([0xE2], m.bytes)
  | .addd (.mem (.idx m)) => ([0xE3], m.bytes)
  | .andb (.mem (.idx m)) => ([0xE4], m.bytes)
  | .bitb (.mem (.idx m)) => ([0xE5], m.bytes)
  | .ldb (.mem (.idx m)) => ([0xE6], m.bytes)
  | .stb (.idx m) => ([0xE7], m.bytes)
  | .eorb (.mem (.idx m)) => ([0xE8], m.bytes)
  | .adcb (.mem (.idx m)) => ([0xE9], m.bytes)
  | .orb (.mem (.idx m)) => ([0xEA], m.bytes)
  | .addb (.mem (.idx m)) => ([0xEB], m.bytes)
  | .ldd (.mem (.idx m)) => ([0xEC], m.bytes)
  | .std (.idx m) => ([0xED], m.bytes)
  | .ldu (.mem (.idx m)) => ([0xEE], m.bytes)
  | .stu (.idx m) => ([0xEF], m.bytes)
  | .subb (.mem (.ext addr)) => ([0xF0], [hiByte addr, loByte addr])
  | .cmpb (.mem (.ext addr)) => ([0xF1], [hiByte addr, loByte addr])
  | .sbcb (.mem (.ext addr)) => ([0xF2], [hiByte addr, loByte addr])
  | .addd (.mem (.ext addr)) => ([0xF3], [hiByte addr, loByte addr])
  | .andb (.mem (.ext addr)) => ([0xF4], [hiByte addr, loByte addr])
  | .bitb (.mem (.ext addr)) => ([0xF5], [hiByte addr, loByte addr])
  | .ldb (.mem (.ext addr)) => ([0xF6], [hiByte addr, loByte addr])
  | .stb (.ext addr) => ([0xF7], [hiByte addr, loByte addr])
  | .eorb (.mem (.ext addr)) => ([0xF8], [hiByte addr, loByte addr])
  | .adcb (.mem (.ext addr)) => ([0xF9], [hiByte addr, loByte addr])
  | .orb (.mem (.ext addr)) => ([0xFA], [hiByte addr, loByte addr])
  | .addb (.mem (.ext addr)) => ([0xFB], [hiByte addr, loByte addr])
  | .ldd (.mem (.ext addr)) => ([0xFC], [hiByte addr, loByte addr])
  | .std (.ext addr) => ([0xFD], [hiByte addr, loByte addr])
  | .ldu (.mem (.ext addr)) => ([0xFE], [hiByte addr, loByte addr])
  | .stu (.ext addr) => ([0xFF], [hiByte addr, loByte addr])
  | .lbrn off => ([0x10, 0x21], [hiByte off, loByte off])
  | .lbhi off => ([0x10, 0x22], [hiByte off, loByte off])
  | .lbls off => ([0x10, 0x23], [hiByte off, loByte off])
  | .lbcc off => ([0x10, 0x24], [hiByte off, loByte off])
  | .lbcs off => ([0x10, 0x25], [hiByte off, loByte off])
  | .lbne off => ([0x10, 0x26], [hiByte off, loByte off])
  | .lbeq off => ([0x10, 0x27], [hiByte off, loByte off])
  | .lbvc off => ([0x10, 0x28], [hiByte off, loByte off])
  | .lbvs off => ([0x10, 0x29], [hiByte off, loByte off])
  | .lbpl off => ([0x10, 0x2A], [hiByte off, loByte off])
  | .lbmi off => ([0x10, 0x2B], [hiByte off, loByte off])
  | .lbge off => ([0x10, 0x2C], [hiByte off, loByte off])
  | .lblt off => ([0x10, 0x2D], [hiByte off, loByte off])
  | .lbgt off => ([0x10, 0x2E], [hiByte off, loByte off])
  | .lble off => ([0x10, 0x2F], [hiByte off, loByte off])
  | .swi2 => ([0x10, 0x3F], [])
  | .cmpd (.imm v) => ([0x10, 0x83], [hiByte v, loByte v])
  | .cmpy (.imm v) => ([0x10, 0x8C], [hiByte v, loByte v])
  | .ldy (.imm v) => ([0x10, 0x8E], [hiByte v, loByte v])
  | .cmpd (.mem (.dir lo)) => ([0x10, 0x93], [lo])
  | .cmpy (.mem (.dir lo)) => ([0x10, 0x9C], [lo])
  | .ldy (.mem (.dir lo)) => ([0x10, 0x9E], [lo])
  | .sty (.dir lo) => ([0x10, 0x9F], [lo])
  | .cmpd (.mem (.idx m)) => ([0x10, 0xA3], m.bytes)
  | .cmpy (.mem (.idx m)) => ([0x10, 0xAC], m.bytes)
  | .ldy (.mem (.idx m)) => ([0x10, 0xAE], m.bytes)
  | .sty (.idx m) => ([0x10, 0xAF], m.bytes)
  | .cmpd (.mem (.ext addr)) => ([0x10, 0xB3], [hiByte addr, loByte addr])
  | .cmpy (.mem (.ext addr)) => ([0x10, 0xBC], [hiByte addr, loByte addr])
  | .ldy (.mem (.ext addr)) => ([0x10, 0xBE], [hiByte addr, loByte addr])
  | .sty (.ext addr) => ([0x10, 0xBF], [hiByte addr, loByte addr])
  | .lds (.imm v) => ([0x10, 0xCE], [hiByte v, loByte v])
  | .lds (.mem (.dir lo)) => ([0x10, 0xDE], [lo])
  | .sts (.dir lo) => ([0x10, 0xDF], [lo])
  | .lds (.mem (.idx m)) => ([0x10, 0xEE], m.bytes)
  | .sts (.idx m) => ([0x10, 0xEF], m.bytes)
  | .lds (.mem (.ext addr)) => ([0x10, 0xFE], [hiByte addr, loByte addr])
  | .sts (.ext addr) => ([0x10, 0xFF], [hiByte addr, loByte addr])
  | .swi3 => ([0x11, 0x3F], [])
  | .cmpu (.imm v) => ([0x11, 0x83], [hiByte v, loByte v])
  | .cmps (.imm v) => ([0x11, 0x8C], [hiByte v, loByte v])
  | .cmpu (.mem (.dir lo)) => ([0x11, 0x93], [lo])
  | .cmps (.mem (.dir lo)) => ([0x11, 0x9C], [lo])
  | .cmpu (.mem (.idx m)) => ([0x11, 0xA3], m.bytes)
  | .cmps (.mem (.idx m)) => ([0x11, 0xAC], m.bytes)
  | .cmpu (.mem (.ext addr)) => ([0x11, 0xB3], [hiByte addr, loByte addr])
  | .cmps (.mem (.ext addr)) => ([0x11, 0xBC], [hiByte addr, loByte addr])

/-- The bytes of an instruction, in memory order (30_encoding.md R133). -/
def encode (i : Instr) : List Byte := i.parts.1 ++ i.parts.2

/-- The key that opcode bytes form (30_encoding.md R130). -/
def keyOf : List Byte → Nat
  | [b0, b1] => (joinBytes b0 b1).toNat
  | b0 :: _ => b0.toNat
  | [] => 0

/-- The base cycle count of an instruction (30_encoding.md R146, column `cycles`): what seeds `busy`. -/
def Instr.cycles (i : Instr) : Nat :=
  match lookupKey (keyOf i.parts.1) with
  | some row => row.cycles
  | none => 0

/-! ### Register codes of TFR and EXG (30_encoding.md R142) -/

/-- The register of a code; 6, 7 and 12 to 15 name none (R142). -/
def Reg.ofCode (c : BitVec 4) : Option Reg :=
  match c.toNat with
  | 0 => some .d
  | 1 => some .x
  | 2 => some .y
  | 3 => some .u
  | 4 => some .s
  | 5 => some .pc
  | 8 => some .a
  | 9 => some .b
  | 10 => some .cc
  | 11 => some .dp
  | _ => none

/-- The width of a register, in bits (41_load_store_transfer.md, the table after R229). -/
def Reg.width : Reg → Nat
  | .a | .b | .cc | .dp => 8
  | _ => 16

/-- The two registers a REGPAIR postbyte names, where both codes are defined and the widths agree
(41_load_store_transfer.md R229, R230). -/
def pairRegs (src dst : BitVec 4) : Option (Reg × Reg) :=
  match Reg.ofCode src, Reg.ofCode dst with
  | some r, some q => if r.width = q.width then some (r, q) else none
  | _, _ => none

/-! ### Words of spec/opcode_table.json -/

/-- The bytes of a word of the opcode table in memory order. Bit 0 is the lowest bit of the first byte and the second
byte is bits 15:8; but the table writes a two-byte opcode as ONE big-endian number, page byte in bits 15:8
(30_encoding.md R152), and such a word is laid out page byte first. No second opcode byte of the map is 0x10 or
0x11, so the two readings never meet on a row (log 13). -/
def tableBytes (nbits w : Nat) : List Byte :=
  if nbits = 16 ∧ (w / 0x100 = 0x10 ∨ w / 0x100 = 0x11) then [BitVec.ofNat 8 (w / 0x100), BitVec.ofNat 8 w, 0, 0, 0]
  else (List.range 5).map fun k => if 8 * k < nbits then BitVec.ofNat 8 (w / 0x100 ^ k) else 0

/-- The instruction the decoder reads from a word of the opcode table; operand bytes above `nbits` are 0. -/
def decodeTableWord (nbits w : Nat) : Option Instr :=
  match decode (tableBytes nbits w) with
  | .ok (i, _) => some i
  | .error _ => none

end Sys2Proof
end

