-- ==== Sys2Proof/Machine/Sparse.lean ====
section
/-! DEFINITION. Sparse lists: data by key in one canonical form (keys strictly rising, no entry equal to what an unlisted
key reads as), used for memories and for the node pool. Reads and writes agree on every list, canonical or not. -/

namespace Sys2Proof.Machine

variable {α : Type}

/-- What is stored under a key; `d` where the key is not listed. -/
def sparseGet (d : α) : List (Nat × α) → Nat → α
  | [], _ => d
  | (j, w) :: m, k => if j = k then w else sparseGet d m k

/-- Put an entry in its place. -/
def sparseInsert : List (Nat × α) → Nat → α → List (Nat × α)
  | [], k, v => [(k, v)]
  | (j, w) :: m, k, v =>
    if k < j then (k, v) :: (j, w) :: m
    else if k = j then (k, v) :: m
    else (j, w) :: sparseInsert m k v

/-- Store `v` under `k`; storing the default removes the entry. -/
def sparsePut [DecidableEq α] (d : α) (m : List (Nat × α)) (k : Nat) (v : α) : List (Nat × α) :=
  if v = d then m.filter fun p => p.1 ≠ k else sparseInsert m k v

/-- The canonical form: keys strictly rising and below `bound`, no default listed. -/
def sparseWf [DecidableEq α] (d : α) (bound : Nat) : List (Nat × α) → Bool
  | [] => true
  | (j, w) :: m => decide (j < bound) && decide (w ≠ d) && (m.all fun p => decide (j < p.1)) && sparseWf d bound m

/-! ### Memories -/

/-- The byte at an address. -/
def Memory.read (m : Memory) (a : Nat) : Byte := sparseGet fillByte m a

/-- Store a byte. -/
def Memory.write (m : Memory) (a : Nat) (v : Byte) : Memory := sparsePut fillByte m a v

/-- The canonical form of a memory of `bound` bytes. -/
def Memory.wf (bound : Nat) (m : Memory) : Bool := sparseWf fillByte bound m

end Sys2Proof.Machine
end

