-- ==== Sys2Proof/Machine/Mmu.lean ====
section
/-! DEFINITION. The MMU allocator: its nodes, the helper functions and the commands of 49_mmu_commands.md. -/

namespace Sys2Proof.Machine

/-! ### Status bits (10_state.md R47) -/

/-- ALLOCATED (R47). -/
def statusAllocated : Byte := 0x01
/-- PAGED (R47). -/
def statusPaged : Byte := 0x02
/-- READONLY (R47). -/
def statusReadonly : Byte := 0x04
/-- FRAGD (R47). -/
def statusFragd : Byte := 0x08
/-- LOCKED (R47). -/
def statusLocked : Byte := 0x10

/-- The node belongs to a chain (10_state.md R47). -/
def Node.allocated (n : Node) : Bool := n.status.getLsbD 0

/-- The node blocks payload writes: LOCKED or READONLY (10_state.md R47, 20_memory.md R98). -/
def Node.sealed (n : Node) : Bool := n.status.getLsbD 2 || n.status.getLsbD 4

/-! ### Nodes -/

/-- The node of an index; an index outside the pool reads as a free node. -/
def Mmu.node (m : Mmu) (i : Word) : Node := sparseGet Node.free m.pool i.toNat

/-- Replace a node; an index outside the pool names none, and nothing is written (10_state.md R46; log 15). -/
def Mmu.setNode (m : Mmu) (i : Word) (n : Node) : Mmu :=
  if i.toNat < nodes then { m with pool := sparsePut Node.free m.pool i.toNat n } else m

/-- `status[i] <- v`. -/
def Mmu.setStatus (m : Mmu) (i : Word) (v : Byte) : Mmu := m.setNode i { m.node i with status := v }
/-- `root[i] <- v`. -/
def Mmu.setRoot (m : Mmu) (i v : Word) : Mmu := m.setNode i { m.node i with root := v }
/-- `prev[i] <- v`. -/
def Mmu.setPrev (m : Mmu) (i v : Word) : Mmu := m.setNode i { m.node i with prev := v }
/-- `next[i] <- v`. -/
def Mmu.setNext (m : Mmu) (i v : Word) : Mmu := m.setNode i { m.node i with next := v }
/-- `data[i][j] <- v`. -/
def Mmu.setData (m : Mmu) (i : Word) (j : Nat) (v : Byte) : Mmu :=
  m.setNode i { m.node i with data := Memory.write (m.node i).data j v }

/-- `ValidHandle(h)` (20_memory.md R97, 10_state.md R50). -/
def Mmu.validHandle (m : Mmu) (h : Word) : Bool :=
  decide (h.toNat < nodes) && (m.node h).allocated && ((m.node h).root == h)

/-- `PayloadWritable(n)` (20_memory.md R98). -/
def Mmu.payloadWritable (m : Mmu) (n : Word) : Bool :=
  decide (n.toNat < nodes) && (m.node n).allocated && !(m.node n).sealed && !(m.node (m.node n).root).sealed

/-- `Mapped(h)` (49_mmu_commands.md R466). -/
def Mmu.mapped (m : Mmu) (h : Word) : Bool := m.bankSel1 == h || m.bankSel2 == h

/-! ### Helper functions (49_mmu_commands.md R462 to R469) -/

/-- The smallest free index from `i` on, among the next `k`. -/
def firstFreeFrom (m : Mmu) : Nat → Nat → Option Word
  | 0, _ => none
  | k + 1, i => if (m.node (BitVec.ofNat 16 i)).allocated then firstFreeFrom m k (i + 1) else some (BitVec.ofNat 16 i)

/-- `FirstFree()` (R462). -/
def Mmu.firstFree (m : Mmu) : Option Word := firstFreeFrom m nodes 0

/-- The status byte of a node taken under a template (R463). -/
def templateStatus (t : Byte) : Byte := statusAllocated ||| (t &&& (statusPaged ||| statusReadonly ||| statusLocked))

/-- `Take(f, t)` (R463). -/
def Mmu.take (m : Mmu) (f : Word) (t : Byte) : Mmu :=
  let m := m.setStatus f (templateStatus t)
  { m with blocksFree := m.blocksFree - 1, blocksAllocated := m.blocksAllocated + 1 }

/-- `Release(n)` (R464). -/
def Mmu.release (m : Mmu) (n : Word) : Mmu :=
  let m := m.setNode n Node.free
  { m with blocksFree := m.blocksFree + 1, blocksAllocated := m.blocksAllocated - 1 }

/-- `b` does not follow `a` in the pool: `b ≠ a + 1`, as natural numbers (R465). -/
def discontinuous (a b : Word) : Bool := b.toNat != a.toNat + 1

/-- `Disc(a, b)` (R465). -/
def disc (a b : Word) : Word := if discontinuous a b then 1 else 0

/-- `blocks_fragged <- blocks_fragged + v`. -/
def Mmu.addFragged (m : Mmu) (v : Word) : Mmu := { m with blocksFragged := m.blocksFragged + v }

/-- A status byte with its FRAGD bit set to `f`. -/
def withFragd (st : Byte) (f : Bool) : Byte := if f then st ||| statusFragd else st &&& ~~~statusFragd

/-- One of the node's links joins indices that do not follow each other (R465). -/
def linkDiscontinuous (n : Node) (i : Word) : Bool :=
  (n.prev != noNode && discontinuous n.prev i) || (n.next != noNode && discontinuous i n.next)

/-- `Refrag(n)` (R465). -/
def Mmu.refrag (m : Mmu) (i : Word) : Mmu :=
  if i = noNode then m else m.setStatus i (withFragd (m.node i).status (linkDiscontinuous (m.node i) i))

/-- The chain from a node on, of at most `k` nodes. -/
def chainFrom (m : Mmu) : Nat → Word → List Word
  | 0, _ => []
  | k + 1, i => if i = noNode then [] else i :: chainFrom m k (m.node i).next

/-- `ChainOf(h)` (R466): "its length is at most `NODES`", which bounds the walk (log 15). -/
def Mmu.chainOf (m : Mmu) (h : Word) : List Word := chainFrom m nodes h

/-- Give every node of a list the root `r`. -/
def Mmu.setRoots (m : Mmu) (xs : List Word) (r : Word) : Mmu := xs.foldl (fun m x => m.setRoot x r) m

/-- The number of links of a chain that join indices that do not follow each other (R468). -/
def chainDisc : List Word → Word
  | a :: b :: rest => disc a b + chainDisc (b :: rest)
  | _ => 0

/-- Join a new node to the one found before it, with the fragmentation marks (R467). -/
def Mmu.linkAfter (m : Mmu) (last f : Word) : Mmu :=
  if last = noNode then m
  else
    let m := m.setNext last f
    if discontinuous last f then
      let m := m.setStatus last (withFragd (m.node last).status true)
      let m := m.setStatus f (withFragd (m.node f).status true)
      m.addFragged 1
    else m

/-- The loop of `BuildChain`, with `rootn` and `last` as they stand (R467): the handle, whether all nodes were found, and
the MMU afterwards. -/
def buildChainFrom (t : Byte) : Nat → Word → Word → Mmu → (Word × Bool) × Mmu
  | 0, rootn, _, m => ((rootn, true), m)
  | k + 1, rootn, last, m =>
    match m.firstFree with
    | none => ((rootn, false), m)
    | some f =>
      let rootn := if rootn = noNode then f else rootn
      let m := m.take f t
      let m := m.setNode f { m.node f with root := rootn, prev := last, next := noNode }
      buildChainFrom t k rootn f (m.linkAfter last f)

/-- `BuildChain(count, t)` (R467). -/
def Mmu.buildChain (m : Mmu) (count : Nat) (t : Byte) : (Word × Bool) × Mmu := buildChainFrom t count noNode noNode m

/-- `FreeChain(h)` (R468). -/
def Mmu.freeChain (m : Mmu) (h : Word) : Mmu :=
  let c := m.chainOf h
  c.foldl Mmu.release (m.addFragged (0 - chainDisc c))

/-- `Cursor()`: the node the cursor designates (R469). -/
def Mmu.cursor (m : Mmu) : Option Word :=
  if m.rawIndex.toNat < nodes ∧ (m.node m.rawIndex).allocated = true then some m.rawIndex else none

/-! ### Commands (49_mmu_commands.md R470 to R490)

A command answers the MMU afterwards and, where it ends in `MmuFail`, the error code. -/

/-- The outcome of a command. -/
abbrev CommandResult := Mmu × Option Byte

/-- `MmuFail(code)` (R460): the error code is stored and `command` cleared; what the command changed before stays. -/
def Mmu.fail (m : Mmu) (code : Byte) : Mmu := { m with error := code, command := 0x00 }

/-- A command on the cursor: it fails with NODE where the cursor is no allocated node (R469). -/
def Mmu.onCursor (e : ErrorCodes) (m : Mmu) (f : Word → CommandResult) : CommandResult :=
  match m.cursor with
  | none => (m, some e.node)
  | some c => f c

/-- PG_ALLOC (R471). -/
def Mmu.pgAlloc (e : ErrorCodes) (m : Mmu) : CommandResult :=
  if m.blocksFree.toNat < pageNodes then ({ m with arg1 := noNode }, some e.outOfMem)
  else
    let r := m.buildChain pageNodes (loByte m.arg2 ||| statusPaged)
    ({ r.2 with arg1 := r.1.1, rawIndex := r.1.1 }, none)

/-- PG_FREE (R472). -/
def Mmu.pgFree (e : ErrorCodes) (m : Mmu) : CommandResult :=
  if m.validHandle m.arg1 = false ∨ (m.node m.arg1).status.getLsbD 1 = false ∨ m.mapped m.arg1 = true then
    (m, some e.pgFree)
  else ({ m.freeChain m.arg1 with arg1 := noNode }, none)

/-- ALLOC (R473). -/
def Mmu.alloc (e : ErrorCodes) (m : Mmu) : CommandResult :=
  if m.arg1.toNat < 1 ∨ 256 < m.arg1.toNat then ({ m with arg1 := noNode }, some e.argument)
  else
    let r := m.buildChain m.arg1.toNat (loByte m.arg2)
    let m := { r.2 with arg1 := r.1.1 }
    let m := if r.1.1 = noNode then m else { m with rawIndex := r.1.1 }
    (m, if r.1.2 then none else some e.alloc)

/-- FREE (R474). -/
def Mmu.free (e : ErrorCodes) (m : Mmu) : CommandResult :=
  if m.validHandle m.arg1 = false then (m, some e.handle)
  else if m.mapped m.arg1 then (m, some e.free)
  else ({ m.freeChain m.arg1 with arg1 := noNode }, none)

/-- LOAD_ROOT (R475). -/
def Mmu.loadRoot (e : ErrorCodes) (m : Mmu) : CommandResult :=
  m.onCursor e fun c => ({ m with rawIndex := (m.node c).root }, none)

/-- LOAD_NEXT (R476). -/
def Mmu.loadNext (e : ErrorCodes) (m : Mmu) : CommandResult :=
  m.onCursor e fun c =>
    if (m.node c).next = noNode then (m, some e.node) else ({ m with rawIndex := (m.node c).next }, none)

/-- LOAD_PREV (R477). -/
def Mmu.loadPrev (e : ErrorCodes) (m : Mmu) : CommandResult :=
  m.onCursor e fun c =>
    if (m.node c).prev = noNode then (m, some e.node) else ({ m with rawIndex := (m.node c).prev }, none)

/-- The last node of the chain from a node on (R478); the walk is bounded by `NODES` (log 15). -/
def lastFrom (m : Mmu) : Nat → Word → Word
  | 0, c => c
  | k + 1, c => if (m.node c).next = noNode then c else lastFrom m k (m.node c).next

/-- LOAD_LAST (R478). -/
def Mmu.loadLast (e : ErrorCodes) (m : Mmu) : CommandResult :=
  m.onCursor e fun c => ({ m with rawIndex := lastFrom m nodes c }, none)

/-- Take node `c` out of its chain, `p` and `n` its neighbours: counters, links, release, the new root of what is left where
`c` was the head, and the FRAGD bits (R479). -/
def Mmu.unlink (m : Mmu) (c p n : Word) : Mmu :=
  let m := if p = noNode then m else m.addFragged (0 - disc p c)
  let m := if n = noNode then m else m.addFragged (0 - disc c n)
  let m := if p = noNode ∨ n = noNode then m else m.addFragged (disc p n)
  let m := if p = noNode then m else m.setNext p n
  let m := if n = noNode then m else m.setPrev n p
  let m := m.release c
  let m :=
    if p = noNode then
      let m := if n = noNode then m else m.setRoots (m.chainOf n) n
      { m with arg1 := n }
    else m
  let m := (m.refrag p).refrag n
  { m with rawIndex := if n = noNode then p else n }

/-- DEL_NODE (R479). -/
def Mmu.delNode (e : ErrorCodes) (m : Mmu) : CommandResult :=
  m.onCursor e fun c =>
    if (m.node c).prev = noNode ∧ m.mapped c = true then (m, some e.mapping)
    else (m.unlink c (m.node c).prev (m.node c).next, none)

/-- Splice the free node `f` in before `c`, whose predecessor is `p` (R480). -/
def Mmu.spliceBefore (m : Mmu) (f c p : Word) : Mmu :=
  let m := m.take f (loByte m.arg2)
  let m := m.setNode f { m.node f with prev := p, next := c }
  let m := m.setPrev c f
  let m :=
    if p = noNode then
      let m := m.setRoots (m.chainOf f) f
      { m with arg1 := f }
    else
      let m := m.setNext p f
      let m := m.setRoot f (m.node c).root
      m.addFragged (disc p f - disc p c)
  let m := m.addFragged (disc f c)
  let m := ((m.refrag p).refrag f).refrag c
  { m with rawIndex := f }

/-- INS_BEFORE (R480). -/
def Mmu.insBefore (e : ErrorCodes) (m : Mmu) : CommandResult :=
  m.onCursor e fun c =>
    if (m.node c).prev = noNode ∧ m.mapped c = true then (m, some e.mapping)
    else
      match m.firstFree with
      | none => (m, some e.alloc)
      | some f => (m.spliceBefore f c (m.node c).prev, none)

/-- Splice the free node `f` in after `c`, whose successor is `n` (R481). -/
def Mmu.spliceAfter (m : Mmu) (f c n : Word) : Mmu :=
  let m := m.take f (loByte m.arg2)
  let m := m.setNode f { m.node f with root := (m.node c).root, prev := c, next := n }
  let m := m.setNext c f
  let m :=
    if n = noNode then m
    else (m.setPrev n f).addFragged (disc f n - disc c n)
  let m := m.addFragged (disc c f)
  let m := ((m.refrag c).refrag f).refrag n
  { m with rawIndex := f }

/-- INS_AFTER (R481). -/
def Mmu.insAfter (e : ErrorCodes) (m : Mmu) : CommandResult :=
  m.onCursor e fun c =>
    match m.firstFree with
    | none => (m, some e.alloc)
    | some f => (m.spliceAfter f c (m.node c).next, none)

/-- Two commands run as one: "If the first part fails the second is not run" (R482). Where the second part fails, the free
Boolean `Config.failedPartMovesCursor` says whether the cursor stays where the first part moved it (log 18). -/
def Mmu.compose (first second : Mmu → CommandResult) (m : Mmu) : CommandResult :=
  match first m with
  | (m', some code) => (m', some code)
  | (m', none) =>
    match second m' with
    | (m'', none) => (m'', none)
    | (m'', some code) =>
      ({ m'' with rawIndex := if Config.failedPartMovesCursor then m''.rawIndex else m.rawIndex }, some code)

/-- PUSH_BACK: LOAD_LAST, then INS_AFTER (R482). -/
def Mmu.pushBack (e : ErrorCodes) (m : Mmu) : CommandResult := m.compose (Mmu.loadLast e) (Mmu.insAfter e)

/-- PUSH_FRONT: LOAD_ROOT, then INS_BEFORE (R483). -/
def Mmu.pushFront (e : ErrorCodes) (m : Mmu) : CommandResult := m.compose (Mmu.loadRoot e) (Mmu.insBefore e)

/-- POP_BACK: LOAD_LAST, then DEL_NODE (R484). -/
def Mmu.popBack (e : ErrorCodes) (m : Mmu) : CommandResult := m.compose (Mmu.loadLast e) (Mmu.delNode e)

/-- POP_FRONT: LOAD_ROOT, then DEL_NODE (R485). -/
def Mmu.popFront (e : ErrorCodes) (m : Mmu) : CommandResult := m.compose (Mmu.loadRoot e) (Mmu.delNode e)

/-- LOCK_NODE (R486). -/
def Mmu.lockNode (e : ErrorCodes) (m : Mmu) : CommandResult :=
  m.onCursor e fun c => (m.setStatus c ((m.node c).status ||| statusLocked), none)

/-- UNLOCK_NODE (R487). -/
def Mmu.unlockNode (e : ErrorCodes) (m : Mmu) : CommandResult :=
  m.onCursor e fun c => (m.setStatus c ((m.node c).status &&& ~~~statusLocked), none)

/-- RESET (R489, 70_reset_and_hazards.md R582): the construction state, but for `command`. -/
def Mmu.resetAll (m : Mmu) : CommandResult := ({ Mmu.construct with command := m.command }, none)

/-- SIZE (R490). -/
def Mmu.size (e : ErrorCodes) (m : Mmu) : CommandResult :=
  if m.validHandle m.arg1 = false then (m, some e.handle)
  else ({ m with arg2 := BitVec.ofNat 16 (m.chainOf m.arg1).length }, none)

/-- What a command does. DEFRAG does nothing here: the machine refuses to go on (R488, `mmuDispatch`). -/
def Mmu.run (e : ErrorCodes) (m : Mmu) (k : MmuCommand) : CommandResult :=
  match k with
  | .nop => (m, none)
  | .pgAlloc => m.pgAlloc e
  | .pgFree => m.pgFree e
  | .alloc => m.alloc e
  | .free => m.free e
  | .loadRoot => m.loadRoot e
  | .loadNext => m.loadNext e
  | .loadPrev => m.loadPrev e
  | .loadLast => m.loadLast e
  | .delNode => m.delNode e
  | .insBefore => m.insBefore e
  | .insAfter => m.insAfter e
  | .pushBack => m.pushBack e
  | .pushFront => m.pushFront e
  | .popBack => m.popBack e
  | .popFront => m.popFront e
  | .lockNode => m.lockNode e
  | .unlockNode => m.unlockNode e
  | .defrag => (m, none)
  | .reset => m.resetAll
  | .size => m.size e

/-- Store the error of a command that failed (R460). -/
def settle : CommandResult → Mmu
  | (m, none) => m
  | (m, some code) => m.fail code

/-- The command of a code (R461). -/
def commandOf (c : Config) (v : Byte) : Option MmuCommand := (c.commands.find? fun p => p.1 == v).map Prod.snd

/-- `MmuDispatch(v)` on the MMU (R460, R491). -/
def Mmu.dispatch (cfg : Config) (m : Mmu) (v : Byte) : Mmu :=
  let m := { m with command := v, error := cfg.errors.none }
  match commandOf cfg v with
  | none => m.fail cfg.errors.invalid
  | some k => settle (m.run cfg.errors k)

end Sys2Proof.Machine
end

