-- ==== Sys2Proof/Machine/Ops.lean ====
section
/-! DEFINITION. The named operations over memory and registers: the bus, the MMU register block, the bank windows, the
stacks, taking an interrupt or software interrupt and returning from one, and CPU faults. -/

namespace Sys2Proof.Machine

/-! ### Registers (10_state.md R20 to R26) -/

/-- D, the pair A:B (10_state.md R21). -/
def State.d (s : State) : Word := joinBytes s.a s.b

/-- Write D: A takes the high byte, B the low byte (10_state.md R21). -/
def State.setD (s : State) (w : Word) : State := { s with a := hiByte w, b := loByte w }

/-- A load of S, `S <-load w`: it clears `nmi_disabled` (10_state.md R24, R40). -/
def State.loadS (s : State) (w : Word) : State := { s with sp := w, nmiDisabled := false }

/-- Add to the cycle counter (10_state.md R42). -/
def State.addBusy (s : State) (n : Nat) : State := { s with busy := s.busy + n }

/-! ### Free values (log 6) -/

/-- Take the next free byte. -/
def State.drawByte (s : State) : Byte × State := (Config.freeByte s.draws, { s with draws := s.draws + 1 })

/-- Take the next free flag. -/
def State.drawFlag (s : State) : Bool × State := (Config.freeFlag s.draws, { s with draws := s.draws + 1 })

/-! ### The bank windows (20_memory.md R94 to R98) -/

/-- `bank_sel[k]` (10_state.md R51). -/
def Mmu.bankSel (m : Mmu) : Window → Word
  | .one => m.bankSel1
  | .two => m.bankSel2

/-- `bank_ram[k]` (10_state.md R58). -/
def State.bankRam (s : State) : Window → Memory
  | .one => s.bankRam1
  | .two => s.bankRam2

/-- Replace `bank_ram[k]`. -/
def State.setBankRam (s : State) (k : Window) (r : Memory) : State :=
  match k with
  | .one => { s with bankRam1 := r }
  | .two => { s with bankRam2 := r }

/-- Where a window access goes (20_memory.md R94). -/
inductive BankTarget
  | ramBacked
  | node (n : Word)
  | bankError
  deriving DecidableEq, Repr

/-- Walk `next` exactly `k` times; none where the chain ends early (20_memory.md R94). -/
def walkNext (m : Mmu) : Nat → Word → Option Word
  | 0, n => some n
  | k + 1, n => if (m.node n).next = noNode then none else walkNext m k (m.node n).next

/-- `BankLocate(k, o)` (20_memory.md R94). -/
def bankLocate (m : Mmu) (k : Window) (o : Nat) : BankTarget :=
  if m.bankSel k = noNode then .ramBacked
  else if m.validHandle (m.bankSel k) = false then .bankError
  else
    match walkNext m (o / nodeBytes) (m.bankSel k) with
    | none => .bankError
    | some n => .node n

/-- A failed window access: `error <- ERR_BANK; command <- 0` (20_memory.md R95, R96). -/
def State.bankFail (s : State) : State := { s with mmu := s.mmu.fail s.cfg.errors.bank }

/-- `BankRead(k, o)` (20_memory.md R95). -/
def bankRead (s : State) (k : Window) (o : Nat) : Byte × State :=
  match bankLocate s.mmu k o with
  | .ramBacked => (Memory.read (s.bankRam k) o, s)
  | .node n => (Memory.read (s.mmu.node n).data (o % nodeBytes), s)
  | .bankError => s.bankFail.drawByte

/-- `BankWrite(k, o, v)` (20_memory.md R96). -/
def bankWrite (s : State) (k : Window) (o : Nat) (v : Byte) : State :=
  match bankLocate s.mmu k o with
  | .ramBacked => s.setBankRam k (Memory.write (s.bankRam k) o v)
  | .node n =>
    if s.mmu.payloadWritable n then { s with mmu := s.mmu.setData n (o % nodeBytes) v } else s
  | .bankError => s.bankFail

/-! ### The MMU register block (10_state.md R60 to R68) -/

/-- The register an offset of the block lies in, and the byte of it (10_state.md R60). -/
def mmuRegAt (c : Config) (o : Nat) : Option (MmuReg × Nat) :=
  (c.mmuRegs.find? fun p => decide (p.1 ≤ o) && decide (o < p.1 + p.2.size)).map fun p => (p.2, o - p.1)

/-- Byte `j` of a big-endian word: the high byte at the lower address (20_memory.md R85). -/
def wordByte (w : Word) (j : Nat) : Byte := if j = 0 then hiByte w else loByte w

/-- Replace byte `j` of a big-endian word (10_state.md R61). -/
def setWordByte (w : Word) (j : Nat) (v : Byte) : Word := if j = 0 then joinBytes v (loByte w) else joinBytes (hiByte w) v

/-- What a byte of an MMU register holds; none where the read is unspecified, which is where `raw_index` is no index of the
pool (10_state.md R61 to R68). -/
def Mmu.regByte (m : Mmu) (r : MmuReg) (j : Nat) : Option Byte :=
  let cursorNode : Option Node := if m.rawIndex.toNat < nodes then some (m.node m.rawIndex) else none
  match r with
  | .bank1Select => some (wordByte m.bankSel1 j)
  | .bank2Select => some (wordByte m.bankSel2 j)
  | .blocksFree => some (wordByte m.blocksFree j)
  | .blocksAllocated => some (wordByte m.blocksAllocated j)
  | .blocksFragged => some (wordByte m.blocksFragged j)
  | .arg1 => some (wordByte m.arg1 j)
  | .arg2 => some (wordByte m.arg2 j)
  | .command => some m.command
  | .error => some m.error
  | .metaData => cursorNode.map fun n => Memory.read n.data j
  | .metaRoot => cursorNode.map fun n => wordByte n.root j
  | .metaPrev => cursorNode.map fun n => wordByte n.prev j
  | .metaNext => cursorNode.map fun n => wordByte n.next j
  | .rawIndex => some (wordByte m.rawIndex j)

/-- `MmuRegRead(o)` (20_memory.md R81, 10_state.md R61 to R68). An offset that no register covers does not occur in a
well-formed configuration; it reads as an unmapped address (log 11). -/
def mmuRegRead (s : State) (o : Nat) : Byte × State :=
  match mmuRegAt s.cfg o with
  | none => (unmappedRead, s)
  | some (r, j) =>
    match s.mmu.regByte r j with
    | some v => (v, s)
    | none => s.drawByte

/-- `MmuDispatch(v)` (49_mmu_commands.md R460). Where the code is DEFRAG's, the machine will refuse to go on (R488). -/
def mmuDispatch (s : State) (v : Byte) : State :=
  { s with
    mmu := s.mmu.dispatch s.cfg v
    defragIssued := s.defragIssued || (commandOf s.cfg v == some .defrag) }

/-- Write byte `j` of an MMU register other than COMMAND; the read-only registers drop it (10_state.md R61 to R63, R65 to
R68). -/
def Mmu.setRegByte (m : Mmu) (r : MmuReg) (j : Nat) (v : Byte) : Mmu :=
  match r with
  | .bank1Select => { m with bankSel1 := setWordByte m.bankSel1 j v }
  | .bank2Select => { m with bankSel2 := setWordByte m.bankSel2 j v }
  | .blocksFree => m
  | .blocksAllocated => m
  | .blocksFragged => m
  | .arg1 => { m with arg1 := setWordByte m.arg1 j v }
  | .arg2 => { m with arg2 := setWordByte m.arg2 j v }
  | .command => m
  | .error => m
  | .metaData => if m.payloadWritable m.rawIndex then m.setData m.rawIndex j v else m
  | .metaRoot => m
  | .metaPrev => m
  | .metaNext => m
  | .rawIndex => { m with rawIndex := setWordByte m.rawIndex j v }

/-- `MmuRegWrite(o, v)` (20_memory.md R82, 10_state.md R61 to R68): a write of COMMAND dispatches (R64). -/
def mmuRegWrite (s : State) (o : Nat) (v : Byte) : State :=
  match mmuRegAt s.cfg o with
  | none => s
  | some (r, j) => if r = .command then mmuDispatch s v else { s with mmu := s.mmu.setRegByte r j v }

/-! ### The bus (20_memory.md R81, R82, R86) -/

/-- The region an address lies in, and the offset in it: a scan of the map, whose regions follow one another from 0
(20_memory.md R81, R84). -/
def regionAt : List Region → Nat → Option (Device × Nat)
  | [], _ => none
  | r :: rest, a => if a < r.size then some (r.kind, a) else regionAt rest (a - r.size)

/-- Where a bus address leads. -/
def State.locate (s : State) (a : Addr) : Option (Device × Nat) := regionAt s.cfg.memMap a.toNat

/-- `Read(addr)` (20_memory.md R81). -/
def busRead (s : State) (a : Addr) : Byte × State :=
  match s.locate a with
  | none => (unmappedRead, s)
  | some (.ram, _) => (Memory.read s.ram a.toNat, s)
  | some (.rom, _) => (Memory.read s.rom a.toNat, s)
  | some (.mmuReg, o) => mmuRegRead s o
  | some (.bankWin k, o) => bankRead s k o
  | some (.external, _) => s.drawByte

/-- `Write(addr, v)` (20_memory.md R82). A byte handed to an EXTERNAL device leaves no trace here (log 9). -/
def busWrite (s : State) (a : Addr) (v : Byte) : State :=
  match s.locate a with
  | none => s
  | some (.ram, _) => { s with ram := Memory.write s.ram a.toNat v }
  | some (.rom, _) => s
  | some (.mmuReg, o) => mmuRegWrite s o v
  | some (.bankWin k, o) => bankWrite s k o v
  | some (.external, _) => s

/-- `MemRead(addr, 2)`: high byte from `addr`, then low byte from `addr + 1` (20_memory.md R86). -/
def read16 (s : State) (a : Addr) : Word × State :=
  let h := busRead s a
  let l := busRead h.2 (a + 1)
  (joinBytes h.1 l.1, l.2)

/-- `MemWrite(addr, 2, w)`: high byte to `addr`, then low byte to `addr + 1` (20_memory.md R86). -/
def write16 (s : State) (a : Addr) (w : Word) : State :=
  busWrite (busWrite s a (hiByte w)) (a + 1) (loByte w)

/-- The byte that a bus read of an address gives without side effect; none where the spec gives no value (EXTERNAL, a failing
window access, a META register with the cursor out of range). An observer of memory: no step uses it. -/
def State.peek (s : State) (a : Addr) : Option Byte :=
  match s.locate a with
  | none => some unmappedRead
  | some (.ram, _) => some (Memory.read s.ram a.toNat)
  | some (.rom, _) => some (Memory.read s.rom a.toNat)
  | some (.mmuReg, o) =>
    match mmuRegAt s.cfg o with
    | none => some unmappedRead
    | some (r, j) => s.mmu.regByte r j
  | some (.bankWin k, o) =>
    match bankLocate s.mmu k o with
    | .ramBacked => some (Memory.read (s.bankRam k) o)
    | .node n => some (Memory.read (s.mmu.node n).data (o % nodeBytes))
    | .bankError => none
  | some (.external, _) => none

/-- A write of `v` to `a` issues the DEFRAG command (49_mmu_commands.md R488, 10_state.md R64). -/
def State.issuesDefrag (s : State) (a : Addr) (v : Byte) : Bool :=
  match s.locate a with
  | some (.mmuReg, o) =>
    match mmuRegAt s.cfg o with
    | some (.command, _) => commandOf s.cfg v == some .defrag
    | _ => false
  | _ => false

/-! ### The host side of the bus (20_memory.md R99, 70_reset_and_hazards.md R588, R589) -/

/-- A write by the debug-bypass path: it reaches the backing arrays of RAM and of the windows and runs no command; "ROM-tagged
devices" do not accept it (20_memory.md R99; log 23). -/
def State.hostWrite (s : State) (a : Addr) (v : Byte) : State :=
  match s.locate a with
  | some (.ram, _) => { s with ram := Memory.write s.ram a.toNat v }
  | some (.bankWin k, o) => s.setBankRam k (Memory.write (s.bankRam k) o v)
  | _ => s

/-- The explicit "write-to-ROM" entry point, the one way into a ROM (20_memory.md R99, 70_reset_and_hazards.md R588); it
reaches nothing else (log 23). -/
def State.hostWriteRom (s : State) (a : Addr) (v : Byte) : State :=
  match s.locate a with
  | some (.rom, _) => { s with rom := Memory.write s.rom a.toNat v }
  | _ => s

/-- The loader's byte: by the entry point for ROM where the address lies in a ROM, by the bypass path elsewhere
(70_reset_and_hazards.md R588). -/
def State.hostLoadByte (s : State) (a : Addr) (v : Byte) : State :=
  match s.locate a with
  | some (.rom, _) => s.hostWriteRom a v
  | _ => s.hostWrite a v

/-- The debugger's read of a backing array; none where the address has none (20_memory.md R99). -/
def State.hostRead (s : State) (a : Addr) : Option Byte :=
  match s.locate a with
  | some (.ram, _) => some (Memory.read s.ram a.toNat)
  | some (.rom, _) => some (Memory.read s.rom a.toNat)
  | some (.bankWin k, o) => some (Memory.read (s.bankRam k) o)
  | _ => none

/-! ### The stacks (45_stack_system.md R420) -/

/-- The two stacks: S and U (R420). -/
inductive Stack
  | s | u
  deriving DecidableEq, Repr

/-- The stack pointer. -/
def State.stackPtr (s : State) : Stack → Word
  | .s => s.sp
  | .u => s.u

/-- Write the stack pointer; for S this is a plain write, no load (10_state.md R24). -/
def State.setStackPtr (s : State) (k : Stack) (w : Word) : State :=
  match k with
  | .s => { s with sp := w }
  | .u => { s with u := w }

/-- `Push8` (R420). -/
def push8 (k : Stack) (v : Byte) (s : State) : State :=
  busWrite (s.setStackPtr k (s.stackPtr k - 1)) (s.stackPtr k - 1) v

/-- `Push16`: low byte first (R420). -/
def push16 (k : Stack) (w : Word) (s : State) : State := push8 k (hiByte w) (push8 k (loByte w) s)

/-- `Pull8` (R420). -/
def pull8 (k : Stack) (s : State) : Byte × State :=
  let r := busRead s (s.stackPtr k)
  (r.1, r.2.setStackPtr k (s.stackPtr k + 1))

/-- `Pull16`: high byte first (R420). -/
def pull16 (k : Stack) (s : State) : Word × State :=
  let h := pull8 k s
  let l := pull8 k h.2
  (joinBytes h.1 l.1, l.2)

/-- The registers of a stack frame and of a register-list postbyte, in push order (30_encoding.md R143, R420, R421).
`other` is the stack pointer of the other stack. -/
inductive StackItem
  | pc | other | y | x | dp | b | a | cc
  deriving DecidableEq, Repr

/-- The bit of the register-list postbyte (30_encoding.md R143). -/
def StackItem.bit : StackItem → Nat
  | .pc => 7
  | .other => 6
  | .y => 5
  | .x => 4
  | .dp => 3
  | .b => 2
  | .a => 1
  | .cc => 0

/-- The bytes the register takes on the stack. -/
def StackItem.bytes : StackItem → Nat
  | .pc | .other | .y | .x => 2
  | _ => 1

/-- Push one register (45_stack_system.md R421, R423). -/
def pushItem (k : Stack) (i : StackItem) (s : State) : State :=
  match i with
  | .pc => push16 k s.pc s
  | .other =>
    match k with
    | .s => push16 k s.u s
    | .u => push16 k s.sp s
  | .y => push16 k s.y s
  | .x => push16 k s.x s
  | .dp => push8 k s.dp s
  | .b => push8 k s.b s
  | .a => push8 k s.a s
  | .cc => push8 k s.cc.toByte s

/-- Pull one register (45_stack_system.md R422, R424). Pulling S from the U stack is a load of S (R424, 10_state.md R24). -/
def pullItem (k : Stack) (i : StackItem) (s : State) : State :=
  match i with
  | .pc => let r := pull16 k s; { r.2 with pc := r.1 }
  | .other =>
    match k with
    | .s => let r := pull16 k s; { r.2 with u := r.1 }
    | .u => let r := pull16 k s; r.2.loadS r.1
  | .y => let r := pull16 k s; { r.2 with y := r.1 }
  | .x => let r := pull16 k s; { r.2 with x := r.1 }
  | .dp => let r := pull8 k s; { r.2 with dp := r.1 }
  | .b => let r := pull8 k s; { r.2 with b := r.1 }
  | .a => let r := pull8 k s; { r.2 with a := r.1 }
  | .cc => let r := pull8 k s; { r.2 with cc := CC.ofByte r.1 }

/-- The push order, highest address first (45_stack_system.md R420, R421). -/
def pushOrder : List StackItem := [.pc, .other, .y, .x, .dp, .b, .a, .cc]

/-- The pull order, the reverse (45_stack_system.md R422). -/
def pullOrder : List StackItem := [.cc, .a, .b, .dp, .x, .y, .other, .pc]

/-- Push the registers of a list, in its order. -/
def pushItems (k : Stack) (is : List StackItem) (s : State) : State := is.foldl (fun s i => pushItem k i s) s

/-- Pull the registers of a list, in its order. -/
def pullItems (k : Stack) (is : List StackItem) (s : State) : State := is.foldl (fun s i => pullItem k i s) s

/-- The registers of a list that a postbyte names, in the list's order (30_encoding.md R143). -/
def selected (mask : Byte) (is : List StackItem) : List StackItem := is.filter fun i => mask.getLsbD i.bit

/-- The bytes the registers of a list take: the cycles PSH and PUL add (70_reset_and_hazards.md R598). -/
def frameBytes (is : List StackItem) : Nat := (is.map StackItem.bytes).sum

/-- `PushAll()` (45_stack_system.md R420): 12 bytes on the S stack. -/
def pushAll (s : State) : State := pushItems .s pushOrder s

/-! ### Taking an interrupt, a software interrupt, and returning (60_exceptions.md R528, 45_stack_system.md R425 to R428) -/

/-- Load PC from a vector, through the bus (20_memory.md R93). -/
def jumpVector (v : Vector) (s : State) : State :=
  let r := read16 s v.addr
  { r.2 with pc := r.1 }

/-- `CC.F <- 1; CC.I <- 1` (60_exceptions.md R528, R533). -/
def State.maskInterrupts (s : State) : State := { s with cc := { s.cc with f := true, i := true } }

/-- `CC.E <- v` (10_state.md R28). -/
def State.setE (s : State) (v : Bool) : State := { s with cc := { s.cc with e := v } }

/-- E is set and the entire frame pushed: the common part of NMI, IRQ, SWI, SWI2, SWI3 and CWAI (10_state.md R28,
60_exceptions.md R536). -/
def pushEntire (s : State) : State := pushAll (s.setE true)

/-- E is cleared and the fast frame pushed, PC and then CC (60_exceptions.md R535). -/
def pushFast (s : State) : State := pushItems .s [.pc, .cc] (s.setE false)

/-- The hardware interrupts (60_exceptions.md R521). -/
inductive Interrupt
  | nmi | firq | irq
  deriving DecidableEq, Repr

/-- The vector of an interrupt (20_memory.md R93). -/
def Interrupt.vector : Interrupt → Vector
  | .nmi => .nmi
  | .firq => .firq
  | .irq => .irq

/-- The frame an interrupt pushes (60_exceptions.md R528, R533 to R535). -/
def pushFrame (k : Interrupt) (s : State) : State :=
  match k with
  | .firq => pushFast s
  | _ => pushEntire s

/-- The cycles of an interrupt entry; timing only (70_reset_and_hazards.md R599). -/
def Interrupt.cycles : Interrupt → Nat
  | .firq => 10
  | _ => 19

/-- `Enter(kind, pre)` (60_exceptions.md R528); `pre` says that CWAI has pushed the frame already (R539). -/
def enterInterrupt (k : Interrupt) (pre : Bool) (s : State) : State :=
  let s := if pre then s else pushFrame k s
  { jumpVector k.vector s.maskInterrupts with busy := if pre then 7 else k.cycles }

/-- The registers RTI pulls after CC where E is set, before PC (45_stack_system.md R428). -/
def rtiItems : List StackItem := [.a, .b, .dp, .x, .y, .other]

/-- The return from an interrupt (45_stack_system.md R428): E of the CC just pulled decides the size of the frame; an entire
frame costs 9 more cycles (70_reset_and_hazards.md R598). -/
def returnFromInterrupt (s : State) : State :=
  let s := pullItem .s .cc s
  pullItem .s .pc (if s.cc.e then (pullItems .s rtiItems s).addBusy 9 else s)

/-! ### CPU faults (60_exceptions.md R524) -/

/-- `raise K(info)`: the fault latch is set and the rest of the instruction is not performed (60_exceptions.md R524). -/
def State.raise (s : State) (k : FaultKind) (info : Word) (start : Addr) : State :=
  { s with fault := some ⟨k, info, start⟩, busy := 0 }

/-! ### The end of an instruction or an entry -/

/-- Every instruction and every interrupt entry ends here: the next state, unless DEFRAG was issued
(49_mmu_commands.md R488). -/
def finish (s : State) : Host.Outcome State Fault Refusal :=
  if s.defragIssued then .refused .defragUnspecified else .next s

end Sys2Proof.Machine
end

