-- ==== Sys2Proof/Machine/Operands.lean ====
section
/-! DEFINITION. The operand forms: effective addresses (40_addressing_modes.md), byte and word operands, the accumulators and
16-bit registers that instructions name, and the register codes of TFR and EXG. When a meaning runs, PC is already past the
instruction's bytes (30_encoding.md R132, 10_state.md R22). -/

namespace Sys2Proof.Machine

/-! ### Registers that instructions name -/

/-- The accumulators A and B. -/
inductive Acc
  | a | b
  deriving DecidableEq, Repr

/-- Read an accumulator. -/
def State.acc (s : State) : Acc → Byte
  | .a => s.a
  | .b => s.b

/-- Write an accumulator; the other is unchanged (10_state.md R21). -/
def State.setAcc (s : State) (r : Acc) (v : Byte) : State :=
  match r with
  | .a => { s with a := v }
  | .b => { s with b := v }

/-- The 16-bit registers that loads, stores, compares and LEA name. -/
inductive Reg16
  | d | x | y | u | s
  deriving DecidableEq, Repr

/-- Read a 16-bit register. -/
def State.reg16 (s : State) : Reg16 → Word
  | .d => s.d
  | .x => s.x
  | .y => s.y
  | .u => s.u
  | .s => s.sp

/-- Load a 16-bit register; a load of S clears `nmi_disabled` (10_state.md R24). -/
def State.loadReg16 (s : State) (r : Reg16) (w : Word) : State :=
  match r with
  | .d => s.setD w
  | .x => { s with x := w }
  | .y => { s with y := w }
  | .u => { s with u := w }
  | .s => s.loadS w

/-! ### Indexed addressing (40_addressing_modes.md R179 to R199) -/

/-- Read a base register (R179). -/
def State.base (s : State) : IdxReg → Word
  | .x => s.x
  | .y => s.y
  | .u => s.u
  | .s => s.sp

/-- Write a base register; S takes a plain write, no load (R198). -/
def State.setBase (s : State) (r : IdxReg) (w : Word) : State :=
  match r with
  | .x => { s with x := w }
  | .y => { s with y := w }
  | .u => { s with u := w }
  | .s => { s with sp := w }

/-- A submode over a base register: the address, and the state with the base register updated (R182, R184 to R190) and the
cycles of R199 added. -/
def IdxMode.ea (m : IdxMode) (r : IdxReg) (s : State) : Addr × State :=
  match m with
  | .postInc2 => (s.base r, (s.setBase r (s.base r + 2)).addBusy 3)
  | .preDec2 => (s.base r - 2, (s.setBase r (s.base r - 2)).addBusy 3)
  | .zero => (s.base r, s)
  | .accB => (s.base r + sext8 s.b, s.addBusy 1)
  | .accA => (s.base r + sext8 s.a, s.addBusy 1)
  | .off8 n => (s.base r + sext8 n, s.addBusy 1)
  | .off16 n => (s.base r + n, s.addBusy 4)
  | .accD => (s.base r + s.d, s.addBusy 4)

/-- One more level of indirection where bit 4 of the postbyte asks for it (R194). -/
def indirect (ind : Bool) (p : Addr × State) : Addr × State :=
  if ind then
    let w := read16 p.2 p.1
    (w.1, w.2.addBusy 3)
  else p

/-- The indexed handler: effective address and state afterwards (R179 to R195). PC-relative forms count from the address
after the extension bytes, which is PC here (R191, R192). -/
def Indexed.ea (m : Indexed) (s : State) : Addr × State :=
  match m with
  | .off5 r n => (s.base r + sext5 n, s.addBusy 1)
  | .postInc1 r => (s.base r, (s.setBase r (s.base r + 1)).addBusy 2)
  | .preDec1 r => (s.base r - 1, (s.setBase r (s.base r - 1)).addBusy 2)
  | .reg r ind m => indirect ind (IdxMode.ea m r s)
  | .pcr8 _ ind n => indirect ind (s.pc + sext8 n, s.addBusy 1)
  | .pcr16 _ ind n => indirect ind (s.pc + n, s.addBusy 5)
  | .extInd a => indirect true (a, s.addBusy 2)

/-! ### Memory operands -/

/-- The effective address of a memory operand: direct (R174), indexed, extended (R175). -/
def MemForm.ea (e : MemForm) (s : State) : Addr × State :=
  match e with
  | .dir lo => (joinBytes s.dp lo, s)
  | .idx m => Indexed.ea m s
  | .ext a => (a, s)

/-- Read a byte operand. The byte of an immediate operand was read with the instruction, at the place of the operand read in
the order of 20_memory.md R89 (R172; log 12). -/
def Src8.read (m : Src8) (s : State) : Byte × State :=
  match m with
  | .imm v => (v, s)
  | .mem e => busRead (MemForm.ea e s).2 (MemForm.ea e s).1

/-- Read a word operand (R173; log 12). -/
def Src16.read (m : Src16) (s : State) : Word × State :=
  match m with
  | .imm v => (v, s)
  | .mem e => read16 (MemForm.ea e s).2 (MemForm.ea e s).1

/-! ### Relative addressing (R176, R177) -/

/-- The target of a short branch (R176). -/
def relTarget8 (s : State) (off : Byte) : Addr := s.pc + sext8 off

/-- The target of a long branch (R177). -/
def relTarget16 (s : State) (off : Word) : Addr := s.pc + off

/-! ### The registers of TFR and EXG (41_load_store_transfer.md R229, R230) -/

/-- `RegRead`: an 8-bit register reads as its byte with zeros above it. -/
def State.regRead (s : State) : Reg → Word
  | .d => s.d
  | .x => s.x
  | .y => s.y
  | .u => s.u
  | .s => s.sp
  | .pc => s.pc
  | .a => zext8 s.a
  | .b => zext8 s.b
  | .cc => zext8 s.cc.toByte
  | .dp => zext8 s.dp

/-- `RegWrite`: an 8-bit register takes the low byte; S takes a load; CC takes all eight bits (R229). -/
def State.regWrite (s : State) (r : Reg) (w : Word) : State :=
  match r with
  | .d => s.setD w
  | .x => { s with x := w }
  | .y => { s with y := w }
  | .u => { s with u := w }
  | .s => s.loadS w
  | .pc => { s with pc := w }
  | .a => { s with a := loByte w }
  | .b => { s with b := loByte w }
  | .cc => { s with cc := CC.ofByte (loByte w) }
  | .dp => { s with dp := loByte w }

end Sys2Proof.Machine
end

