-- ==== Sys2Proof/Machine/Arith.lean ====
section
/-! DEFINITION. Arithmetic: adds, subtracts, compares, NEG, INC, DEC, TST, CLR, MUL, DAA, SEX, ABX (42_arithmetic.md), and
the shared one-operand operation that 43_logic_shift.md uses too. -/

namespace Sys2Proof.Machine

/-! ### Shared operations -/

/-- `Add8` into an accumulator; `withCarry` is ADC (R260, R264, R266). -/
def addAcc (r : Acc) (withCarry : Bool) (m : Src8) (s : State) : State :=
  let v := Src8.read m s
  let t := v.2
  let c := withCarry && t.cc.c
  { t.setAcc r (add8 (t.acc r) v.1 c) with cc := t.cc.add8 (t.acc r) v.1 c }

/-- The flags of `Sub8` on a state, H being the next free flag (R261). -/
def sub8Flags (a m : Byte) (c : Bool) (s : State) : State :=
  let h := s.drawFlag
  { h.2 with cc := s.cc.sub8 h.1 a m c }

/-- `Sub8` into an accumulator; `withCarry` is SBC (R261, R268, R270). -/
def subAcc (r : Acc) (withCarry : Bool) (m : Src8) (s : State) : State :=
  let v := Src8.read m s
  let t := v.2
  let c := withCarry && t.cc.c
  (sub8Flags (t.acc r) v.1 c t).setAcc r (sub8 (t.acc r) v.1 c)

/-- `Sub8`, result discarded (R272). -/
def cmpAcc (r : Acc) (m : Src8) (s : State) : State :=
  let v := Src8.read m s
  sub8Flags (v.2.acc r) v.1 false v.2

/-- `Add16` into D (R262, R274). -/
def addD (m : Src16) (s : State) : State :=
  let v := Src16.read m s
  let t := v.2
  { t.setD (t.d + v.1) with cc := t.cc.add16 t.d v.1 }

/-- `Sub16` into D (R263, R275). -/
def subD (m : Src16) (s : State) : State :=
  let v := Src16.read m s
  let t := v.2
  { t.setD (t.d - v.1) with cc := t.cc.sub16 t.d v.1 }

/-- `Sub16`, result discarded (R263, R276). -/
def cmp16 (r : Reg16) (m : Src16) (s : State) : State :=
  let v := Src16.read m s
  { v.2 with cc := v.2.cc.sub16 (v.2.reg16 r) v.1 }

/-- The flags of a one-operand operation on a state: H is the next free flag where the operation leaves it unspecified
(93_implementation_defined.md U1). -/
def unaryFlags (op : Unary) (m : Byte) (s : State) : State :=
  if op.drawsH then
    let h := s.drawFlag
    { h.2 with cc := op.flags s.cc h.1 m }
  else { s with cc := op.flags s.cc s.cc.h m }

/-- A one-operand operation on an accumulator (R282). -/
def unaryAcc (op : Unary) (r : Acc) (s : State) : State :=
  (unaryFlags op (s.acc r) s).setAcc r (op.result (s.acc r) s.cc.c)

/-- A one-operand operation on memory: one read, then one write of EA (R281, 20_memory.md R89). -/
def unaryMem (op : Unary) (e : MemForm) (s : State) : State :=
  let p := MemForm.ea e s
  let v := busRead p.2 p.1
  busWrite (unaryFlags op v.1 v.2) p.1 (op.result v.1 v.2.cc.c)

/-- TST on memory: one read, no write (R290). -/
def testMem (e : MemForm) (s : State) : State :=
  let p := MemForm.ea e s
  let v := busRead p.2 p.1
  { v.2 with cc := v.2.cc.move8 v.1 }

/-- TST on an accumulator (R291). -/
def testAcc (r : Acc) (s : State) : State := { s with cc := s.cc.move8 (s.acc r) }

/-- CLR on memory: one write, no read (R293). -/
def clearMem (e : MemForm) (s : State) : State :=
  let p := MemForm.ea e s
  let t := busWrite p.2 p.1 0x00
  { t with cc := t.cc.clear }

/-- CLR on an accumulator (R294). -/
def clearAcc (r : Acc) (s : State) : State := { s.setAcc r 0x00 with cc := s.cc.clear }

/-- MUL (R296). -/
def mulAB (s : State) : State :=
  let p := mul8 s.a s.b
  { s.setD p with cc := s.cc.mul p }

/-- DAA; V is the next free flag (R297, 93_implementation_defined.md U2). -/
def decimalAdjust (s : State) : State :=
  let v := s.drawFlag
  { v.2 with a := daa8 s.a s.cc.h s.cc.c, cc := s.cc.daa v.1 s.a }

/-- SEX (R298). -/
def signExtend (s : State) : State :=
  let a := sexByte s.b
  { s with a := a, cc := s.cc.sex s.cfg.sexClearsV (joinBytes a s.b) }

/-- ABX: B unsigned, no flag (R299). -/
def addBX (s : State) : State := { s with x := s.x + zext8 s.b }

/-! ### The instructions -/

/-- ADDA (R264). -/
def execAdda (m : Src8) (s : State) : Host.Outcome State Fault Refusal :=
  finish (addAcc .a false m s)

/-- ADDB (R265). -/
def execAddb (m : Src8) (s : State) : Host.Outcome State Fault Refusal :=
  finish (addAcc .b false m s)

/-- ADCA (R266). -/
def execAdca (m : Src8) (s : State) : Host.Outcome State Fault Refusal :=
  finish (addAcc .a true m s)

/-- ADCB (R267). -/
def execAdcb (m : Src8) (s : State) : Host.Outcome State Fault Refusal :=
  finish (addAcc .b true m s)

/-- SUBA (R268). -/
def execSuba (m : Src8) (s : State) : Host.Outcome State Fault Refusal :=
  finish (subAcc .a false m s)

/-- SUBB (R269). -/
def execSubb (m : Src8) (s : State) : Host.Outcome State Fault Refusal :=
  finish (subAcc .b false m s)

/-- SBCA (R270). -/
def execSbca (m : Src8) (s : State) : Host.Outcome State Fault Refusal :=
  finish (subAcc .a true m s)

/-- SBCB (R271). -/
def execSbcb (m : Src8) (s : State) : Host.Outcome State Fault Refusal :=
  finish (subAcc .b true m s)

/-- CMPA (R272). -/
def execCmpa (m : Src8) (s : State) : Host.Outcome State Fault Refusal :=
  finish (cmpAcc .a m s)

/-- CMPB (R273). -/
def execCmpb (m : Src8) (s : State) : Host.Outcome State Fault Refusal :=
  finish (cmpAcc .b m s)

/-- ADDD (R274). -/
def execAddd (m : Src16) (s : State) : Host.Outcome State Fault Refusal :=
  finish (addD m s)

/-- SUBD (R275). -/
def execSubd (m : Src16) (s : State) : Host.Outcome State Fault Refusal :=
  finish (subD m s)

/-- CMPD (R276). -/
def execCmpd (m : Src16) (s : State) : Host.Outcome State Fault Refusal :=
  finish (cmp16 .d m s)

/-- CMPX (R277). -/
def execCmpx (m : Src16) (s : State) : Host.Outcome State Fault Refusal :=
  finish (cmp16 .x m s)

/-- CMPY (R278). -/
def execCmpy (m : Src16) (s : State) : Host.Outcome State Fault Refusal :=
  finish (cmp16 .y m s)

/-- CMPU (R279). -/
def execCmpu (m : Src16) (s : State) : Host.Outcome State Fault Refusal :=
  finish (cmp16 .u m s)

/-- CMPS (R280). -/
def execCmps (m : Src16) (s : State) : Host.Outcome State Fault Refusal :=
  finish (cmp16 .s m s)

/-- NEG (R281). -/
def execNeg (e : MemForm) (s : State) : Host.Outcome State Fault Refusal :=
  finish (unaryMem .neg e s)

/-- NEGA (R282). -/
def execNega (s : State) : Host.Outcome State Fault Refusal :=
  finish (unaryAcc .neg .a s)

/-- NEGB (R283). -/
def execNegb (s : State) : Host.Outcome State Fault Refusal :=
  finish (unaryAcc .neg .b s)

/-- INC (R284). -/
def execInc (e : MemForm) (s : State) : Host.Outcome State Fault Refusal :=
  finish (unaryMem .inc e s)

/-- INCA (R285). -/
def execInca (s : State) : Host.Outcome State Fault Refusal :=
  finish (unaryAcc .inc .a s)

/-- INCB (R286). -/
def execIncb (s : State) : Host.Outcome State Fault Refusal :=
  finish (unaryAcc .inc .b s)

/-- DEC (R287). -/
def execDec (e : MemForm) (s : State) : Host.Outcome State Fault Refusal :=
  finish (unaryMem .dec e s)

/-- DECA (R288). -/
def execDeca (s : State) : Host.Outcome State Fault Refusal :=
  finish (unaryAcc .dec .a s)

/-- DECB (R289). -/
def execDecb (s : State) : Host.Outcome State Fault Refusal :=
  finish (unaryAcc .dec .b s)

/-- TST (R290). -/
def execTst (e : MemForm) (s : State) : Host.Outcome State Fault Refusal :=
  finish (testMem e s)

/-- TSTA (R291). -/
def execTsta (s : State) : Host.Outcome State Fault Refusal :=
  finish (testAcc .a s)

/-- TSTB (R292). -/
def execTstb (s : State) : Host.Outcome State Fault Refusal :=
  finish (testAcc .b s)

/-- CLR (R293). -/
def execClr (e : MemForm) (s : State) : Host.Outcome State Fault Refusal :=
  finish (clearMem e s)

/-- CLRA (R294). -/
def execClra (s : State) : Host.Outcome State Fault Refusal :=
  finish (clearAcc .a s)

/-- CLRB (R295). -/
def execClrb (s : State) : Host.Outcome State Fault Refusal :=
  finish (clearAcc .b s)

/-- MUL (R296). -/
def execMul (s : State) : Host.Outcome State Fault Refusal :=
  finish (mulAB s)

/-- DAA (R297). -/
def execDaa (s : State) : Host.Outcome State Fault Refusal :=
  finish (decimalAdjust s)

/-- SEX (R298). -/
def execSex (s : State) : Host.Outcome State Fault Refusal :=
  finish (signExtend s)

/-- ABX (R299). -/
def execAbx (s : State) : Host.Outcome State Fault Refusal :=
  finish (addBX s)

end Sys2Proof.Machine
end

