-- ==== Sys2Proof/Machine/Branch.lean ====
section
/-! DEFINITION. Branches, jumps, subroutine calls, RTS and NOP (44_branch_jump.md). -/

namespace Sys2Proof.Machine

/-! ### Shared operations -/

/-- A short branch: PC takes the target where the condition holds (R370, R371). -/
def branch8 (k : Cond) (off : Byte) (s : State) : State :=
  if k.holds s.cc then { s with pc := relTarget8 s off } else s

/-- A long conditional branch: taken, it costs one more cycle (R389, 70_reset_and_hazards.md R598). -/
def branch16 (k : Cond) (off : Word) (s : State) : State :=
  if k.holds s.cc then { s.addBusy 1 with pc := relTarget16 s off } else s

/-- `PC <- EA` (R387, R405). -/
def State.jump (s : State) (a : Addr) : State := { s with pc := a }

/-- Push the return address on S and jump (R403, R404, R406). -/
def call (a : Addr) (s : State) : State := (push16 .s s.pc s).jump a

/-! ### The instructions -/

/-- BRA (R371). -/
def execBra (off : Byte) (s : State) : Host.Outcome State Fault Refusal :=
  finish (branch8 .always off s)

/-- BRN (R372). -/
def execBrn (off : Byte) (s : State) : Host.Outcome State Fault Refusal :=
  finish (branch8 .never off s)

/-- BHI (R373). -/
def execBhi (off : Byte) (s : State) : Host.Outcome State Fault Refusal :=
  finish (branch8 .hi off s)

/-- BLS (R374). -/
def execBls (off : Byte) (s : State) : Host.Outcome State Fault Refusal :=
  finish (branch8 .ls off s)

/-- BCC (R375). -/
def execBcc (off : Byte) (s : State) : Host.Outcome State Fault Refusal :=
  finish (branch8 .cc off s)

/-- BCS (R376). -/
def execBcs (off : Byte) (s : State) : Host.Outcome State Fault Refusal :=
  finish (branch8 .cs off s)

/-- BNE (R377). -/
def execBne (off : Byte) (s : State) : Host.Outcome State Fault Refusal :=
  finish (branch8 .ne off s)

/-- BEQ (R378). -/
def execBeq (off : Byte) (s : State) : Host.Outcome State Fault Refusal :=
  finish (branch8 .eq off s)

/-- BVC (R379). -/
def execBvc (off : Byte) (s : State) : Host.Outcome State Fault Refusal :=
  finish (branch8 .vc off s)

/-- BVS (R380). -/
def execBvs (off : Byte) (s : State) : Host.Outcome State Fault Refusal :=
  finish (branch8 .vs off s)

/-- BPL (R381). -/
def execBpl (off : Byte) (s : State) : Host.Outcome State Fault Refusal :=
  finish (branch8 .pl off s)

/-- BMI (R382). -/
def execBmi (off : Byte) (s : State) : Host.Outcome State Fault Refusal :=
  finish (branch8 .mi off s)

/-- BGE (R383). -/
def execBge (off : Byte) (s : State) : Host.Outcome State Fault Refusal :=
  finish (branch8 .ge off s)

/-- BLT (R384). -/
def execBlt (off : Byte) (s : State) : Host.Outcome State Fault Refusal :=
  finish (branch8 .lt off s)

/-- BGT (R385). -/
def execBgt (off : Byte) (s : State) : Host.Outcome State Fault Refusal :=
  finish (branch8 .gt off s)

/-- BLE (R386). -/
def execBle (off : Byte) (s : State) : Host.Outcome State Fault Refusal :=
  finish (branch8 .le off s)

/-- LBRA (R387). -/
def execLbra (off : Word) (s : State) : Host.Outcome State Fault Refusal :=
  finish (s.jump (relTarget16 s off))

/-- LBRN: the offset bytes are consumed, nothing else happens (R388). -/
def execLbrn (_off : Word) (s : State) : Host.Outcome State Fault Refusal :=
  finish (s)

/-- LBHI (R389). -/
def execLbhi (off : Word) (s : State) : Host.Outcome State Fault Refusal :=
  finish (branch16 .hi off s)

/-- LBLS (R390). -/
def execLbls (off : Word) (s : State) : Host.Outcome State Fault Refusal :=
  finish (branch16 .ls off s)

/-- LBCC (R391). -/
def execLbcc (off : Word) (s : State) : Host.Outcome State Fault Refusal :=
  finish (branch16 .cc off s)

/-- LBCS (R392). -/
def execLbcs (off : Word) (s : State) : Host.Outcome State Fault Refusal :=
  finish (branch16 .cs off s)

/-- LBNE (R393). -/
def execLbne (off : Word) (s : State) : Host.Outcome State Fault Refusal :=
  finish (branch16 .ne off s)

/-- LBEQ (R394). -/
def execLbeq (off : Word) (s : State) : Host.Outcome State Fault Refusal :=
  finish (branch16 .eq off s)

/-- LBVC (R395). -/
def execLbvc (off : Word) (s : State) : Host.Outcome State Fault Refusal :=
  finish (branch16 .vc off s)

/-- LBVS (R396). -/
def execLbvs (off : Word) (s : State) : Host.Outcome State Fault Refusal :=
  finish (branch16 .vs off s)

/-- LBPL (R397). -/
def execLbpl (off : Word) (s : State) : Host.Outcome State Fault Refusal :=
  finish (branch16 .pl off s)

/-- LBMI (R398). -/
def execLbmi (off : Word) (s : State) : Host.Outcome State Fault Refusal :=
  finish (branch16 .mi off s)

/-- LBGE (R399). -/
def execLbge (off : Word) (s : State) : Host.Outcome State Fault Refusal :=
  finish (branch16 .ge off s)

/-- LBLT (R400). -/
def execLblt (off : Word) (s : State) : Host.Outcome State Fault Refusal :=
  finish (branch16 .lt off s)

/-- LBGT (R401). -/
def execLbgt (off : Word) (s : State) : Host.Outcome State Fault Refusal :=
  finish (branch16 .gt off s)

/-- LBLE (R402). -/
def execLble (off : Word) (s : State) : Host.Outcome State Fault Refusal :=
  finish (branch16 .le off s)

/-- BSR (R403). -/
def execBsr (off : Byte) (s : State) : Host.Outcome State Fault Refusal :=
  finish (call (relTarget8 s off) s)

/-- LBSR (R404). -/
def execLbsr (off : Word) (s : State) : Host.Outcome State Fault Refusal :=
  finish (call (relTarget16 s off) s)

/-- JMP: the operand at EA is not read (R405). -/
def execJmp (e : MemForm) (s : State) : Host.Outcome State Fault Refusal :=
  finish ((MemForm.ea e s).2.jump (MemForm.ea e s).1)

/-- JSR: EA is complete before the push (R406). -/
def execJsr (e : MemForm) (s : State) : Host.Outcome State Fault Refusal :=
  finish (call (MemForm.ea e s).1 (MemForm.ea e s).2)

/-- RTS (R407). -/
def execRts (s : State) : Host.Outcome State Fault Refusal :=
  finish (pullItem .s .pc s)

/-- NOP (R408). -/
def execNop (s : State) : Host.Outcome State Fault Refusal :=
  finish (s)

end Sys2Proof.Machine
end

