-- ==== Sys2Proof/Machine/LoadStore.lean ====
section
/-! DEFINITION. Loads, stores, LEA, TFR and EXG (41_load_store_transfer.md). -/

namespace Sys2Proof.Machine

/-! ### Shared operations -/

/-- Load an accumulator: N and Z from the byte, V cleared (R210, R211). -/
def load8 (r : Acc) (m : Src8) (s : State) : State :=
  let v := Src8.read m s
  { v.2.setAcc r v.1 with cc := v.2.cc.move8 v.1 }

/-- Load a 16-bit register: N and Z from the word, V cleared (R210, R213). -/
def load16 (r : Reg16) (m : Src16) (s : State) : State :=
  let v := Src16.read m s
  { v.2.loadReg16 r v.1 with cc := v.2.cc.move16 v.1 }

/-- Store an accumulator: the flags come from the register, whether or not the write lands (R218). -/
def store8 (r : Acc) (e : MemForm) (s : State) : State :=
  let p := MemForm.ea e s
  let v := p.2.acc r
  let t := busWrite p.2 p.1 v
  { t with cc := t.cc.move8 v }

/-- Store a 16-bit register, read after the addressing mode has updated its base register (R220, R221). -/
def store16 (r : Reg16) (e : MemForm) (s : State) : State :=
  let p := MemForm.ea e s
  let v := p.2.reg16 r
  let t := write16 p.2 p.1 v
  { t with cc := t.cc.move16 v }

/-- Load an effective address and write Z (R225). -/
def leaZ (r : Reg16) (m : Indexed) (s : State) : State :=
  let p := Indexed.ea m s
  { p.2.loadReg16 r p.1 with cc := { p.2.cc with z := p.1 == 0 } }

/-- Load an effective address; no flag is written (R227, R228). -/
def lea (r : Reg16) (m : Indexed) (s : State) : State :=
  let p := Indexed.ea m s
  p.2.loadReg16 r p.1

/-- A REGPAIR postbyte that names no register or mixes widths: InvalidPostbyte, the start being the address of the opcode
byte, two before PC (R229, 60_exceptions.md R525; log 8). -/
def badPair (src dst : BitVec 4) (s : State) : State := s.raise .invalidPostbyte (zext8 (src ++ dst)) (s.pc - 2)

/-- `RegWrite(d, RegRead(s))` (R229). -/
def transfer (src dst : BitVec 4) (s : State) : State :=
  match pairRegs src dst with
  | some (r, q) => s.regWrite q (s.regRead r)
  | none => badPair src dst s

/-- Both registers are read before either is written; the destination is written first (R230). -/
def exchange (src dst : BitVec 4) (s : State) : State :=
  match pairRegs src dst with
  | some (r, q) => (s.regWrite q (s.regRead r)).regWrite r (s.regRead q)
  | none => badPair src dst s

/-! ### The instructions -/

/-- LDA (R211). -/
def execLda (m : Src8) (s : State) : Host.Outcome State Fault Refusal :=
  finish (load8 .a m s)

/-- LDB (R212). -/
def execLdb (m : Src8) (s : State) : Host.Outcome State Fault Refusal :=
  finish (load8 .b m s)

/-- LDD (R213). -/
def execLdd (m : Src16) (s : State) : Host.Outcome State Fault Refusal :=
  finish (load16 .d m s)

/-- LDX (R214). -/
def execLdx (m : Src16) (s : State) : Host.Outcome State Fault Refusal :=
  finish (load16 .x m s)

/-- LDY (R215). -/
def execLdy (m : Src16) (s : State) : Host.Outcome State Fault Refusal :=
  finish (load16 .y m s)

/-- LDU (R216). -/
def execLdu (m : Src16) (s : State) : Host.Outcome State Fault Refusal :=
  finish (load16 .u m s)

/-- LDS (R217), a load of S. -/
def execLds (m : Src16) (s : State) : Host.Outcome State Fault Refusal :=
  finish (load16 .s m s)

/-- STA (R218). -/
def execSta (e : MemForm) (s : State) : Host.Outcome State Fault Refusal :=
  finish (store8 .a e s)

/-- STB (R219). -/
def execStb (e : MemForm) (s : State) : Host.Outcome State Fault Refusal :=
  finish (store8 .b e s)

/-- STD (R220). -/
def execStd (e : MemForm) (s : State) : Host.Outcome State Fault Refusal :=
  finish (store16 .d e s)

/-- STX (R221). -/
def execStx (e : MemForm) (s : State) : Host.Outcome State Fault Refusal :=
  finish (store16 .x e s)

/-- STY (R222). -/
def execSty (e : MemForm) (s : State) : Host.Outcome State Fault Refusal :=
  finish (store16 .y e s)

/-- STU (R223). -/
def execStu (e : MemForm) (s : State) : Host.Outcome State Fault Refusal :=
  finish (store16 .u e s)

/-- STS (R224). -/
def execSts (e : MemForm) (s : State) : Host.Outcome State Fault Refusal :=
  finish (store16 .s e s)

/-- LEAX (R225). -/
def execLeax (m : Indexed) (s : State) : Host.Outcome State Fault Refusal :=
  finish (leaZ .x m s)

/-- LEAY (R226). -/
def execLeay (m : Indexed) (s : State) : Host.Outcome State Fault Refusal :=
  finish (leaZ .y m s)

/-- LEAS (R227), a load of S. -/
def execLeas (m : Indexed) (s : State) : Host.Outcome State Fault Refusal :=
  finish (lea .s m s)

/-- LEAU (R228). -/
def execLeau (m : Indexed) (s : State) : Host.Outcome State Fault Refusal :=
  finish (lea .u m s)

/-- TFR (R229). -/
def execTfr (src : BitVec 4) (dst : BitVec 4) (s : State) : Host.Outcome State Fault Refusal :=
  finish (transfer src dst s)

/-- EXG (R230). -/
def execExg (src : BitVec 4) (dst : BitVec 4) (s : State) : Host.Outcome State Fault Refusal :=
  finish (exchange src dst s)

end Sys2Proof.Machine
end

