-- ==== Sys2Proof/Machine/Logic.lean ====
section
/-! DEFINITION. Logical, shift, rotate and condition-code instructions (43_logic_shift.md). -/

namespace Sys2Proof.Machine

/-! ### Shared operations -/

/-- A logical operation into an accumulator: N and Z from the result, V cleared (R320, R321). -/
def logicAcc (op : Byte → Byte → Byte) (r : Acc) (m : Src8) (s : State) : State :=
  let v := Src8.read m s
  let res := op (v.2.acc r) v.1
  { v.2.setAcc r res with cc := v.2.cc.move8 res }

/-- BIT: the flags of AND, result discarded (R327). -/
def bitTest (r : Acc) (m : Src8) (s : State) : State :=
  let v := Src8.read m s
  { v.2 with cc := v.2.cc.move8 (v.2.acc r &&& v.1) }

/-- `CC <- CC and M`, all eight bits (R347). -/
def State.andCC (s : State) (m : Byte) : State := { s with cc := CC.ofByte (s.cc.toByte &&& m) }

/-- `CC <- CC or M`, all eight bits (R348). -/
def State.orCC (s : State) (m : Byte) : State := { s with cc := CC.ofByte (s.cc.toByte ||| m) }

/-! ### The instructions -/

/-- ANDA (R321). -/
def execAnda (m : Src8) (s : State) : Host.Outcome State Fault Refusal :=
  finish (logicAcc (fun a m => a &&& m) .a m s)

/-- ANDB (R322). -/
def execAndb (m : Src8) (s : State) : Host.Outcome State Fault Refusal :=
  finish (logicAcc (fun a m => a &&& m) .b m s)

/-- ORA (R323). -/
def execOra (m : Src8) (s : State) : Host.Outcome State Fault Refusal :=
  finish (logicAcc (fun a m => a ||| m) .a m s)

/-- ORB (R324). -/
def execOrb (m : Src8) (s : State) : Host.Outcome State Fault Refusal :=
  finish (logicAcc (fun a m => a ||| m) .b m s)

/-- EORA (R325). -/
def execEora (m : Src8) (s : State) : Host.Outcome State Fault Refusal :=
  finish (logicAcc (fun a m => a ^^^ m) .a m s)

/-- EORB (R326). -/
def execEorb (m : Src8) (s : State) : Host.Outcome State Fault Refusal :=
  finish (logicAcc (fun a m => a ^^^ m) .b m s)

/-- BITA (R327). -/
def execBita (m : Src8) (s : State) : Host.Outcome State Fault Refusal :=
  finish (bitTest .a m s)

/-- BITB (R328). -/
def execBitb (m : Src8) (s : State) : Host.Outcome State Fault Refusal :=
  finish (bitTest .b m s)

/-- COM (R329). -/
def execCom (e : MemForm) (s : State) : Host.Outcome State Fault Refusal :=
  finish (unaryMem .com e s)

/-- COMA (R330). -/
def execComa (s : State) : Host.Outcome State Fault Refusal :=
  finish (unaryAcc .com .a s)

/-- COMB (R331). -/
def execComb (s : State) : Host.Outcome State Fault Refusal :=
  finish (unaryAcc .com .b s)

/-- LSR (R332). -/
def execLsr (e : MemForm) (s : State) : Host.Outcome State Fault Refusal :=
  finish (unaryMem .lsr e s)

/-- LSRA (R333). -/
def execLsra (s : State) : Host.Outcome State Fault Refusal :=
  finish (unaryAcc .lsr .a s)

/-- LSRB (R334). -/
def execLsrb (s : State) : Host.Outcome State Fault Refusal :=
  finish (unaryAcc .lsr .b s)

/-- ASR (R335). -/
def execAsr (e : MemForm) (s : State) : Host.Outcome State Fault Refusal :=
  finish (unaryMem .asr e s)

/-- ASRA (R336). -/
def execAsra (s : State) : Host.Outcome State Fault Refusal :=
  finish (unaryAcc .asr .a s)

/-- ASRB (R337). -/
def execAsrb (s : State) : Host.Outcome State Fault Refusal :=
  finish (unaryAcc .asr .b s)

/-- ASL (R338). -/
def execAsl (e : MemForm) (s : State) : Host.Outcome State Fault Refusal :=
  finish (unaryMem .asl e s)

/-- ASLA (R339). -/
def execAsla (s : State) : Host.Outcome State Fault Refusal :=
  finish (unaryAcc .asl .a s)

/-- ASLB (R340). -/
def execAslb (s : State) : Host.Outcome State Fault Refusal :=
  finish (unaryAcc .asl .b s)

/-- ROL (R341). -/
def execRol (e : MemForm) (s : State) : Host.Outcome State Fault Refusal :=
  finish (unaryMem .rol e s)

/-- ROLA (R342). -/
def execRola (s : State) : Host.Outcome State Fault Refusal :=
  finish (unaryAcc .rol .a s)

/-- ROLB (R343). -/
def execRolb (s : State) : Host.Outcome State Fault Refusal :=
  finish (unaryAcc .rol .b s)

/-- ROR (R344). -/
def execRor (e : MemForm) (s : State) : Host.Outcome State Fault Refusal :=
  finish (unaryMem .ror e s)

/-- RORA (R345). -/
def execRora (s : State) : Host.Outcome State Fault Refusal :=
  finish (unaryAcc .ror .a s)

/-- RORB (R346). -/
def execRorb (s : State) : Host.Outcome State Fault Refusal :=
  finish (unaryAcc .ror .b s)

/-- ANDCC (R347). -/
def execAndcc (v : Byte) (s : State) : Host.Outcome State Fault Refusal :=
  finish (s.andCC v)

/-- ORCC (R348). -/
def execOrcc (v : Byte) (s : State) : Host.Outcome State Fault Refusal :=
  finish (s.orCC v)

end Sys2Proof.Machine
end

