-- ==== Sys2Proof/Machine/System.lean ====
section
/-! DEFINITION. Stack, software-interrupt, return and wait instructions (45_stack_system.md). -/

namespace Sys2Proof.Machine

/-! ### Shared operations -/

/-- PSHS and PSHU: the registers the mask names, in push order; one cycle per byte (R421, 70_reset_and_hazards.md R598). -/
def pushMask (k : Stack) (mask : Byte) (s : State) : State :=
  (pushItems k (selected mask pushOrder) s).addBusy (frameBytes (selected mask pushOrder))

/-- PULS and PULU: the registers the mask names, in pull order; one cycle per byte (R422, 70_reset_and_hazards.md R598). -/
def pullMask (k : Stack) (mask : Byte) (s : State) : State :=
  (pullItems k (selected mask pullOrder) s).addBusy (frameBytes (selected mask pullOrder))

/-! ### The instructions -/

/-- PSHS (R421). -/
def execPshs (mask : Byte) (s : State) : Host.Outcome State Fault Refusal :=
  finish (pushMask .s mask s)

/-- PULS (R422). -/
def execPuls (mask : Byte) (s : State) : Host.Outcome State Fault Refusal :=
  finish (pullMask .s mask s)

/-- PSHU (R423). -/
def execPshu (mask : Byte) (s : State) : Host.Outcome State Fault Refusal :=
  finish (pushMask .u mask s)

/-- PULU (R424). -/
def execPulu (mask : Byte) (s : State) : Host.Outcome State Fault Refusal :=
  finish (pullMask .u mask s)

/-- SWI: the entire frame with E set, then F and I set, then the vector (R425). -/
def execSwi (s : State) : Host.Outcome State Fault Refusal :=
  finish (jumpVector .swi (pushEntire s).maskInterrupts)

/-- SWI2: F and I are not changed (R426). -/
def execSwi2 (s : State) : Host.Outcome State Fault Refusal :=
  finish (jumpVector .swi2 (pushEntire s))

/-- SWI3: F and I are not changed (R427). -/
def execSwi3 (s : State) : Host.Outcome State Fault Refusal :=
  finish (jumpVector .swi3 (pushEntire s))

/-- RTI (R428). -/
def execRti (s : State) : Host.Outcome State Fault Refusal :=
  finish (returnFromInterrupt s)

/-- CWAI: the mask, E, the entire frame, and the wait (R429). -/
def execCwai (v : Byte) (s : State) : Host.Outcome State Fault Refusal :=
  finish ({ pushEntire (s.andCC v) with wait := .cwai })

/-- SYNC (R430). -/
def execSync (s : State) : Host.Outcome State Fault Refusal :=
  finish ({ s with wait := .sync })

end Sys2Proof.Machine
end

