-- ==== Sys2Proof/Machine/Dispatch.lean ====
section
/-! DEFINITION. The meaning of every instruction, by its constructor: one direct call an arm. -/

namespace Sys2Proof.Machine

/-- What an instruction does, PC already being past its bytes (30_encoding.md R132). -/
def exec (i : Instr) (s : State) : Host.Outcome State Fault Refusal :=
  match i with
  | .neg e => Sys2Proof.Machine.execNeg e s
  | .com e => Sys2Proof.Machine.execCom e s
  | .lsr e => Sys2Proof.Machine.execLsr e s
  | .ror e => Sys2Proof.Machine.execRor e s
  | .asr e => Sys2Proof.Machine.execAsr e s
  | .asl e => Sys2Proof.Machine.execAsl e s
  | .rol e => Sys2Proof.Machine.execRol e s
  | .dec e => Sys2Proof.Machine.execDec e s
  | .inc e => Sys2Proof.Machine.execInc e s
  | .tst e => Sys2Proof.Machine.execTst e s
  | .jmp e => Sys2Proof.Machine.execJmp e s
  | .clr e => Sys2Proof.Machine.execClr e s
  | .nop => Sys2Proof.Machine.execNop s
  | .sync => Sys2Proof.Machine.execSync s
  | .lbra off => Sys2Proof.Machine.execLbra off s
  | .lbsr off => Sys2Proof.Machine.execLbsr off s
  | .daa => Sys2Proof.Machine.execDaa s
  | .orcc v => Sys2Proof.Machine.execOrcc v s
  | .andcc v => Sys2Proof.Machine.execAndcc v s
  | .sex => Sys2Proof.Machine.execSex s
  | .exg src dst => Sys2Proof.Machine.execExg src dst s
  | .tfr src dst => Sys2Proof.Machine.execTfr src dst s
  | .bra off => Sys2Proof.Machine.execBra off s
  | .brn off => Sys2Proof.Machine.execBrn off s
  | .bhi off => Sys2Proof.Machine.execBhi off s
  | .bls off => Sys2Proof.Machine.execBls off s
  | .bcc off => Sys2Proof.Machine.execBcc off s
  | .bcs off => Sys2Proof.Machine.execBcs off s
  | .bne off => Sys2Proof.Machine.execBne off s
  | .beq off => Sys2Proof.Machine.execBeq off s
  | .bvc off => Sys2Proof.Machine.execBvc off s
  | .bvs off => Sys2Proof.Machine.execBvs off s
  | .bpl off => Sys2Proof.Machine.execBpl off s
  | .bmi off => Sys2Proof.Machine.execBmi off s
  | .bge off => Sys2Proof.Machine.execBge off s
  | .blt off => Sys2Proof.Machine.execBlt off s
  | .bgt off => Sys2Proof.Machine.execBgt off s
  | .ble off => Sys2Proof.Machine.execBle off s
  | .leax m => Sys2Proof.Machine.execLeax m s
  | .leay m => Sys2Proof.Machine.execLeay m s
  | .leas m => Sys2Proof.Machine.execLeas m s
  | .leau m => Sys2Proof.Machine.execLeau m s
  | .pshs mask => Sys2Proof.Machine.execPshs mask s
  | .puls mask => Sys2Proof.Machine.execPuls mask s
  | .pshu mask => Sys2Proof.Machine.execPshu mask s
  | .pulu mask => Sys2Proof.Machine.execPulu mask s
  | .rts => Sys2Proof.Machine.execRts s
  | .abx => Sys2Proof.Machine.execAbx s
  | .rti => Sys2Proof.Machine.execRti s
  | .cwai v => Sys2Proof.Machine.execCwai v s
  | .mul => Sys2Proof.Machine.execMul s
  | .swi => Sys2Proof.Machine.execSwi s
  | .nega => Sys2Proof.Machine.execNega s
  | .coma => Sys2Proof.Machine.execComa s
  | .lsra => Sys2Proof.Machine.execLsra s
  | .rora => Sys2Proof.Machine.execRora s
  | .asra => Sys2Proof.Machine.execAsra s
  | .asla => Sys2Proof.Machine.execAsla s
  | .rola => Sys2Proof.Machine.execRola s
  | .deca => Sys2Proof.Machine.execDeca s
  | .inca => Sys2Proof.Machine.execInca s
  | .tsta => Sys2Proof.Machine.execTsta s
  | .clra => Sys2Proof.Machine.execClra s
  | .negb => Sys2Proof.Machine.execNegb s
  | .comb => Sys2Proof.Machine.execComb s
  | .lsrb => Sys2Proof.Machine.execLsrb s
  | .rorb => Sys2Proof.Machine.execRorb s
  | .asrb => Sys2Proof.Machine.execAsrb s
  | .aslb => Sys2Proof.Machine.execAslb s
  | .rolb => Sys2Proof.Machine.execRolb s
  | .decb => Sys2Proof.Machine.execDecb s
  | .incb => Sys2Proof.Machine.execIncb s
  | .tstb => Sys2Proof.Machine.execTstb s
  | .clrb => Sys2Proof.Machine.execClrb s
  | .suba m => Sys2Proof.Machine.execSuba m s
  | .cmpa m => Sys2Proof.Machine.execCmpa m s
  | .sbca m => Sys2Proof.Machine.execSbca m s
  | .subd m => Sys2Proof.Machine.execSubd m s
  | .anda m => Sys2Proof.Machine.execAnda m s
  | .bita m => Sys2Proof.Machine.execBita m s
  | .lda m => Sys2Proof.Machine.execLda m s
  | .eora m => Sys2Proof.Machine.execEora m s
  | .adca m => Sys2Proof.Machine.execAdca m s
  | .ora m => Sys2Proof.Machine.execOra m s
  | .adda m => Sys2Proof.Machine.execAdda m s
  | .cmpx m => Sys2Proof.Machine.execCmpx m s
  | .bsr off => Sys2Proof.Machine.execBsr off s
  | .ldx m => Sys2Proof.Machine.execLdx m s
  | .sta e => Sys2Proof.Machine.execSta e s
  | .jsr e => Sys2Proof.Machine.execJsr e s
  | .stx e => Sys2Proof.Machine.execStx e s
  | .subb m => Sys2Proof.Machine.execSubb m s
  | .cmpb m => Sys2Proof.Machine.execCmpb m s
  | .sbcb m => Sys2Proof.Machine.execSbcb m s
  | .addd m => Sys2Proof.Machine.execAddd m s
  | .andb m => Sys2Proof.Machine.execAndb m s
  | .bitb m => Sys2Proof.Machine.execBitb m s
  | .ldb m => Sys2Proof.Machine.execLdb m s
  | .eorb m => Sys2Proof.Machine.execEorb m s
  | .adcb m => Sys2Proof.Machine.execAdcb m s
  | .orb m => Sys2Proof.Machine.execOrb m s
  | .addb m => Sys2Proof.Machine.execAddb m s
  | .ldd m => Sys2Proof.Machine.execLdd m s
  | .ldu m => Sys2Proof.Machine.execLdu m s
  | .stb e => Sys2Proof.Machine.execStb e s
  | .std e => Sys2Proof.Machine.execStd e s
  | .stu e => Sys2Proof.Machine.execStu e s
  | .lbrn off => Sys2Proof.Machine.execLbrn off s
  | .lbhi off => Sys2Proof.Machine.execLbhi off s
  | .lbls off => Sys2Proof.Machine.execLbls off s
  | .lbcc off => Sys2Proof.Machine.execLbcc off s
  | .lbcs off => Sys2Proof.Machine.execLbcs off s
  | .lbne off => Sys2Proof.Machine.execLbne off s
  | .lbeq off => Sys2Proof.Machine.execLbeq off s
  | .lbvc off => Sys2Proof.Machine.execLbvc off s
  | .lbvs off => Sys2Proof.Machine.execLbvs off s
  | .lbpl off => Sys2Proof.Machine.execLbpl off s
  | .lbmi off => Sys2Proof.Machine.execLbmi off s
  | .lbge off => Sys2Proof.Machine.execLbge off s
  | .lblt off => Sys2Proof.Machine.execLblt off s
  | .lbgt off => Sys2Proof.Machine.execLbgt off s
  | .lble off => Sys2Proof.Machine.execLble off s
  | .swi2 => Sys2Proof.Machine.execSwi2 s
  | .cmpd m => Sys2Proof.Machine.execCmpd m s
  | .cmpy m => Sys2Proof.Machine.execCmpy m s
  | .ldy m => Sys2Proof.Machine.execLdy m s
  | .sty e => Sys2Proof.Machine.execSty e s
  | .lds m => Sys2Proof.Machine.execLds m s
  | .sts e => Sys2Proof.Machine.execSts e s
  | .swi3 => Sys2Proof.Machine.execSwi3 s
  | .cmpu m => Sys2Proof.Machine.execCmpu m s
  | .cmps m => Sys2Proof.Machine.execCmps m s

end Sys2Proof.Machine
end

