-- ==== Sys2Proof/WellFormed.lean ====
section
/-! DEFINITION. Which instructions and which configurations are well-formed. -/

namespace Sys2Proof

/-- Well-formed instructions. Every indexed operand of `Instr` is a valid postbyte by its type, and every register mask
is valid (30_encoding.md R148), so only the register pairs of TFR and EXG carry a check: both codes name a register and
the two have one width (R142). An ill-formed one still decodes, and executing it raises InvalidPostbyte
(41_load_store_transfer.md R229, R230). -/
def Instr.wf : Instr → Bool
  | .tfr src dst => (pairRegs src dst).isSome
  | .exg src dst => (pairRegs src dst).isSome
  | _ => true

/-! ### Configurations -/

/-- No region has size zero ("a zero-size result is a fatal configuration error", 20_memory.md R84). -/
def sizesPositive (m : List Region) : Bool := m.all fun r => 0 < r.size

/-- The bytes the map takes. -/
def totalSize (m : List Region) : Nat := (m.map Region.size).sum

/-- The two bus configuration faults do not occur (60_exceptions.md R560). -/
def busOk (m : List Region) : Bool := sizesPositive m && decide (totalSize m ≤ 65536)

/-- The regions of a kind. -/
def regionsOf (m : List Region) (k : Device) : List Region := m.filter fun r => r.kind == k

/-- The two windows stand side by side, window 1 first (20_memory.md R84). -/
def windowsAdjacent : List Region → Bool
  | r :: q :: rest =>
    (r.kind == .bankWin .one && q.kind == .bankWin .two) || windowsAdjacent (q :: rest)
  | _ => false

/-- Exactly one MMU register block of 56 bytes and the two windows of 8192 bytes, adjacent (20_memory.md R84). -/
def mmuRegionsOk (m : List Region) : Bool :=
  regionsOf m .mmuReg == [⟨mmuBlockBytes, .mmuReg⟩] &&
    regionsOf m (.bankWin .one) == [⟨windowBytes, .bankWin .one⟩] &&
    regionsOf m (.bankWin .two) == [⟨windowBytes, .bankWin .two⟩] &&
    windowsAdjacent m

/-- The byte ranges of two registers do not meet. -/
def disjointRegs (p q : Nat × MmuReg) : Bool :=
  decide (p.1 + p.2.size ≤ q.1 ∨ q.1 + q.2.size ≤ p.1)

/-- No two entries of a list stand in conflict. -/
def pairwiseB {α : Type} (r : α → α → Bool) : List α → Bool
  | [] => true
  | x :: xs => xs.all (r x) && pairwiseB r xs

/-- The fourteen registers, each once, on disjoint ranges inside the 56 bytes (10_state.md R60). -/
def mmuRegsOk (t : List (Nat × MmuReg)) : Bool :=
  (t.length == 14) && pairwiseB (fun p q => p.2 != q.2) t && pairwiseB disjointRegs t &&
    t.all fun p => decide (p.1 + p.2.size ≤ mmuBlockBytes)

/-- The twenty-one commands, each once, under different codes (49_mmu_commands.md R461). -/
def commandsOk (t : List (Byte × MmuCommand)) : Bool :=
  (t.length == 21) && pairwiseB (fun p q => p.1 != q.1) t && pairwiseB (fun p q => p.2 != q.2) t

/-- What R560 does not name as a bus configuration fault and the machine still needs (20_memory.md R84, 10_state.md R60,
49_mmu_commands.md R461); NONE is code 0 and `ERR_PG_FREE` is not (60_exceptions.md R550, R556). DESIGN CHOICE, safe: of the
other error codes nothing is asked, so two names may share a code and a name may have code 0 (log 22). -/
def Config.tablesOk (c : Config) : Bool :=
  mmuRegionsOk c.memMap && mmuRegsOk c.mmuRegs && commandsOk c.commands &&
    (c.errors.none == 0) && (c.errors.pgFree != 0)

/-- A configuration the machine is defined for (20_memory.md R84). -/
def Config.wf (c : Config) : Bool := busOk c.memMap && c.tablesOk

end Sys2Proof
end

