-- ==== Sys2Proof/Machine/Tick.lean ====
section
/-! DEFINITION. The tick (60_exceptions.md R520, R528), the fetch (30_encoding.md R130, R132), the reset input
(70_reset_and_hazards.md R580), the environment's inputs, and the loader's placing of an instruction. -/

namespace Sys2Proof.Machine

/-! ### Fetch and execute (30_encoding.md R130, R132) -/

/-- `Fetch8()` (R130). -/
def fetch8 (s : State) : Byte × State :=
  let b := busRead s s.pc
  (b.1, { b.2 with pc := b.2.pc + 1 })

/-- Run the decoder on the bytes at PC: exactly the bytes it asks for are fetched, in order, and PC ends past them
(R130, R132, 20_memory.md R89). -/
def fetchWith : Reader → State → Except Reject Instr × State
  | .done r, s => (r, s)
  | .more k, s => fetchWith (k (fetch8 s).1) (fetch8 s).2

/-- Fetch the instruction at PC. -/
def fetch (s : State) : Except Reject Instr × State := fetchWith decoder s

/-- Raise what the decoder rejects: InvalidOpcode (60_exceptions.md R522) or InvalidPostbyte (R525). -/
def raiseReject (r : Reject) (start : Addr) (s : State) : State :=
  match r with
  | .invalidOpcode key => s.raise .invalidOpcode key start
  | .invalidPostbyte pb => s.raise .invalidPostbyte (zext8 pb) start

/-- `ExecuteOne()` (30_encoding.md R132): fetch, seed `busy` from the table, run the instruction. -/
def executeOne (s : State) : Host.Outcome State Fault Refusal :=
  match fetch s with
  | (.error r, t) => finish (raiseReject r s.pc t)
  | (.ok i, t) => exec i { t with busy := i.cycles }

/-! ### Interrupts (60_exceptions.md R528) -/

/-- An input line is low (60_exceptions.md R537). -/
def State.anyLine (s : State) : Bool := !s.nmiN || !s.firqN || !s.irqN

/-- The interrupt that an evaluation enters, by the masks, the lines and whether `NMI_n` has fallen
(60_exceptions.md R528, R529 to R532). -/
def acceptInterrupt (edge : Bool) (s : State) : Option Interrupt :=
  if edge = true ∧ s.nmiDisabled = false then some .nmi
  else if s.firqN = false ∧ s.cc.f = false then some .firq
  else if s.irqN = false ∧ s.cc.i = false then some .irq
  else none

/-- `ServiceInterrupts()` (60_exceptions.md R528): whether an interrupt was entered, and the state afterwards. -/
def serviceInterrupts (s : State) : Bool × State :=
  let edge := s.nmiHist && !s.nmiN
  let t := { s with nmiHist := s.nmiN }
  if s.wait ≠ .normal ∧ s.anyLine = false then (false, t)
  else
    let pre := (s.wait == .cwai) && !s.cfg.cwaiEntryRestacks
    let t := { t with wait := .normal }
    match acceptInterrupt edge t with
    | some k => (true, enterInterrupt k pre t)
    | none => (false, t)

/-! ### The tick -/

/-- Output `halted`: a CPU fault has been recorded (00_scope.md R9, 10_state.md R43). -/
def State.halted (s : State) : Bool := s.fault.isSome

/-- The evaluation of a tick that is neither halted nor counting down (60_exceptions.md R520). -/
def evaluate (s : State) : Host.Outcome State Fault Refusal :=
  let r := serviceInterrupts s
  if r.1 then finish r.2
  else if r.2.wait ≠ .normal then .next r.2
  else executeOne r.2

/-- `Tick()` (60_exceptions.md R520), for a configuration the machine is defined for (20_memory.md R84,
60_exceptions.md R560; log 11). -/
def tick (s : State) : Host.Outcome State Fault Refusal :=
  if busOk s.cfg.memMap = false then .fault .busConfiguration
  else if s.cfg.tablesOk = false then .refused .illFormedConfiguration
  else if s.halted then .next s
  else if 0 < s.busy then .next { s with busy := s.busy - 1 }
  else evaluate s

/-- `Step()`, the untimed step: `busy <- 0; Tick()` (70_reset_and_hazards.md R596). -/
def untimedStep (s : State) : Host.Outcome State Fault Refusal := tick { s with busy := 0 }

/-! ### Inputs, between ticks -/

/-- `Reset()`, the reset input (70_reset_and_hazards.md R580). -/
def State.resetInput (s : State) : State :=
  jumpVector .reset
    { s with
      dp := 0x00
      cc := { s.cc with f := true, i := true }
      nmiDisabled := true
      nmiHist := true
      wait := .normal
      busy := 0
      fault := none }

/-- The environment drives the three lines (60_exceptions.md R527, 10_state.md R38). -/
def State.withLines (s : State) (nmi firq irq : Bool) : State := { s with nmiN := nmi, firqN := firq, irqN := irq }

/-! ### The loader (70_reset_and_hazards.md R588) -/

/-- Load a list of bytes from an address on (20_memory.md R99, R87; 70_reset_and_hazards.md R588). -/
def State.hostLoad (s : State) : Addr → List Byte → State
  | _, [] => s
  | a, v :: vs => (s.hostLoadByte a v).hostLoad (a + 1) vs

/-- The instruction of a word of the opcode table at PC, and a machine ready to fetch it: not halted, not counting down, not
waiting, no line low. A window over PC is unmapped, so that its backing RAM is what the fetch reads (log 14). -/
def placeInstruction (s : State) (nbits w : Nat) : State :=
  let s := { s with fault := none, busy := 0, wait := .normal, nmiN := true, firqN := true, irqN := true }
  let s :=
    match s.locate s.pc with
    | some (.bankWin .one, _) => { s with mmu := { s.mmu with bankSel1 := noNode } }
    | some (.bankWin .two, _) => { s with mmu := { s.mmu with bankSel2 := noNode } }
    | _ => s
  s.hostLoad s.pc (tableBytes nbits w)

end Sys2Proof.Machine
end

