-- ==== Sys2Proof/Machine/Step.lean ====
section
/-! DEFINITION. The step of the machine, and the placing of an instruction where the next step fetches it. -/

namespace Sys2Proof.Machine

/-- One step is one tick (00_scope.md R11; log 10). -/
def step (s : State) : Host.Outcome State Fault Refusal := tick s

/-- `s` with the instruction of a word of spec/opcode_table.json stored where `step` fetches its next instruction
(log 14). -/
def State.withFetchWord (s : State) (nbits w : Nat) : State := placeInstruction s nbits w

end Sys2Proof.Machine
end

