-- ==== Sys2Proof/Safety.lean ====
section
/-! DEFINITION. The terms the statements use: sound states, the conditions an instruction runs under, frames, and the spec's
formulas in forms of their own. No step uses them. -/

namespace Sys2Proof.Machine

/-! ### Sound states -/

/-- The canonical form of a node: its payload is a memory of 32 bytes, and status bits 5, 6 and 7 are 0
(10_state.md R46, R47; 93_implementation_defined.md U17). -/
def Node.wf (n : Node) : Bool := Memory.wf nodeBytes n.data && (n.status &&& 0xE0 == 0)

/-- The canonical form of the pool: indices rising and below `NODES`, no free node listed, every node canonical
(10_state.md R46). -/
def Pool.wf (p : Pool) : Bool := sparseWf Node.free nodes p && p.all fun e => e.2.wf

/-- Every memory of the machine is in its canonical form: RAM and ROM over 64 KB of addresses, each `bank_ram` over its 8 KB
(10_state.md R58, R69), and the pool. -/
def State.memoriesWf (s : State) : Bool :=
  Memory.wf 65536 s.ram && Memory.wf 65536 s.rom && Memory.wf windowBytes s.bankRam1 && Memory.wf windowBytes s.bankRam2 &&
    Pool.wf s.mmu.pool

/-- `blocks_free + blocks_allocated = NODES`, as 16-bit counters (10_state.md R49 (g)). -/
def State.countersOk (s : State) : Bool := s.mmu.blocksFree + s.mmu.blocksAllocated == BitVec.ofNat 16 nodes

/-- No fault of the kind that no rule raises is latched (60_exceptions.md R523). -/
def State.faultKindOk (s : State) : Bool :=
  match s.fault with
  | some r => r.kind != .invalidAddressingMode
  | none => true

/-- A halted machine is not counting down (60_exceptions.md R524). -/
def State.haltedIdle (s : State) : Bool := !s.halted || s.busy == 0

/-- A sound state: what every step keeps. -/
def State.sound (s : State) : Bool :=
  s.cfg.wf && s.memoriesWf && s.countersOk && s.faultKindOk && s.haltedIdle && !s.defragIssued

/-! ### Chains (10_state.md R48, R49) -/

/-- An index that is no allocated node reads as a free node (10_state.md R48). -/
def Mmu.freeNodesClear (m : Mmu) : Prop := ∀ i : Word, (m.node i).allocated = false → m.node i = Node.free

/-- Every allocated node lies on the chain of its root, the root is a head, and neighbours name each other
(10_state.md R49 (a) to (e)). -/
structure Mmu.NodeOnChain (m : Mmu) (i : Word) : Prop where
  inPool : i.toNat < nodes
  rootAllocated : (m.node (m.node i).root).allocated = true
  rootIsHead : (m.node (m.node i).root).root = (m.node i).root
  onChain : i ∈ m.chainOf (m.node i).root
  headHasNoPrev : (m.node i).prev = noNode ↔ (m.node i).root = i
  next : (m.node i).next ≠ noNode → (m.node (m.node i).next).allocated = true ∧ (m.node (m.node i).next).prev = i ∧
    (m.node (m.node i).next).root = (m.node i).root
  prev : (m.node i).prev ≠ noNode → (m.node (m.node i).prev).allocated = true ∧ (m.node (m.node i).prev).next = i

/-- The chain invariants of 10_state.md R49 (a) to (e), with R48 for the free nodes. -/
def Mmu.ChainsOk (m : Mmu) : Prop := m.freeNodesClear ∧ ∀ i : Word, (m.node i).allocated = true → m.NodeOnChain i

/-- How many nodes are allocated (10_state.md R49 (g)). -/
def Mmu.allocatedCount (m : Mmu) : Nat := (m.pool.filter fun e => e.2.allocated).length

/-- How many links join indices that do not follow each other (10_state.md R49 (g)). -/
def Mmu.discontinuityCount (m : Mmu) : Nat :=
  (m.pool.filter fun e =>
    e.2.allocated && e.2.next != noNode && discontinuous (BitVec.ofNat 16 e.1) e.2.next).length

/-- The counters count, and FRAGD marks the nodes with a link of that kind (10_state.md R49 (g), (h)). -/
structure Mmu.CountsOk (m : Mmu) : Prop where
  free : m.blocksFree = BitVec.ofNat 16 (nodes - m.allocatedCount)
  allocated : m.blocksAllocated = BitVec.ofNat 16 m.allocatedCount
  fragged : m.blocksFragged = BitVec.ofNat 16 m.discontinuityCount
  fragd : ∀ i : Word, (m.node i).allocated = true →
    (m.node i).status.getLsbD 3 = linkDiscontinuous (m.node i) i

/-! ### When a step runs an instruction -/

/-- Neither halted nor counting down, on a well-formed configuration, and no DEFRAG under way: the tick is an evaluation
(60_exceptions.md R520). `defragIssued` is false in every sound state. -/
structure State.Evaluates (s : State) : Prop where
  cfg : s.cfg.wf = true
  fault : s.fault = none
  busy : s.busy = 0
  defrag : s.defragIssued = false

/-- `NMI_n` has fallen since the last evaluation (10_state.md R39). -/
def State.nmiEdge (s : State) : Bool := s.nmiHist && !s.nmiN

/-- No interrupt is entered at this evaluation: no NMI edge that counts, FIRQ high or masked, IRQ high or masked
(60_exceptions.md R528). -/
def State.NoInterrupt (s : State) : Prop :=
  (s.nmiEdge = false ∨ s.nmiDisabled = true) ∧ (s.firqN = true ∨ s.cc.f = true) ∧ (s.irqN = true ∨ s.cc.i = true)

/-- The interrupt that an evaluation enters, by the spec's tests in their order: NMI before FIRQ before IRQ
(60_exceptions.md R529 to R532). -/
def State.accepts (s : State) : Interrupt → Bool
  | .nmi => s.nmiEdge && !s.nmiDisabled
  | .firq => !(s.nmiEdge && !s.nmiDisabled) && !s.firqN && !s.cc.f
  | .irq => !(s.nmiEdge && !s.nmiDisabled) && !(!s.firqN && !s.cc.f) && !s.irqN && !s.cc.i

/-- These bytes lie in memory from an address on, and reading them has no side effect. -/
def State.bytesAt (s : State) : Addr → List Byte → Bool
  | _, [] => true
  | a, v :: vs => s.peek a == some v && s.bytesAt (a + 1) vs

/-- The outcome is a next state, `t` but for the cycle counter, which is timing only (70_reset_and_hazards.md R597). -/
def Completes (o : Host.Outcome State Fault Refusal) (t : State) : Prop := ∃ n, o = .next { t with busy := n }

/-! ### Frames -/

/-- The address lies in the MMU register block. -/
def State.inMmuBlock (s : State) (a : Addr) : Bool := (s.locate a).map Prod.fst == some .mmuReg

/-- Writes to this address land in RAM. -/
def State.inRam (s : State) (a : Addr) : Bool := (s.locate a).map Prod.fst == some .ram

/-- Nothing was stored: every byte of memory reads as before, the hidden bytes behind a mapped window and the pool among
them; a failed window read has at most set ERROR and cleared COMMAND (20_memory.md R91, R95). -/
structure MemoryUnchanged (s t : State) : Prop where
  bytes : ∀ a, s.inMmuBlock a = false → t.peek a = s.peek a
  mmu : t.mmu = s.mmu ∨ t.mmu = s.mmu.fail s.cfg.errors.bank
  ram : t.ram = s.ram
  rom : t.rom = s.rom
  bankRam1 : t.bankRam1 = s.bankRam1
  bankRam2 : t.bankRam2 = s.bankRam2

/-- The base register that an indexed operand updates: the auto-increment and auto-decrement forms
(40_addressing_modes.md R181 to R184). -/
def Indexed.autoReg : Indexed → Option IdxReg
  | .postInc1 r => some r
  | .preDec1 r => some r
  | .reg r _ .postInc2 => some r
  | .reg r _ .preDec2 => some r
  | _ => none

/-- The base register that a memory operand updates. -/
def MemForm.autoReg : MemForm → Option IdxReg
  | .idx m => Indexed.autoReg m
  | _ => none

/-- The base register that a byte operand updates. -/
def Src8.autoReg : Src8 → Option IdxReg
  | .mem e => MemForm.autoReg e
  | .imm _ => none

/-- The base register that a word operand updates. -/
def Src16.autoReg : Src16 → Option IdxReg
  | .mem e => MemForm.autoReg e
  | .imm _ => none

/-! ### Instructions by their shape -/

/-- One instruction of a pair, by the accumulator it names. -/
def byAcc (ia ib : Instr) : Acc → Instr
  | .a => ia
  | .b => ib

/-- The instructions that take an accumulator and a byte operand. -/
inductive AccOp
  | ld | add | adc | sub | sbc | cmp | and | or | eor | bit
  deriving DecidableEq, Repr

/-- The operations that leave H unspecified (93_implementation_defined.md U1). -/
def AccOp.subtracts : AccOp → Bool
  | .sub | .sbc | .cmp => true
  | _ => false

/-- The instruction of an operation. -/
def AccOp.instr (op : AccOp) (r : Acc) (m : Src8) : Instr :=
  match op with
  | .ld => byAcc (.lda m) (.ldb m) r
  | .add => byAcc (.adda m) (.addb m) r
  | .adc => byAcc (.adca m) (.adcb m) r
  | .sub => byAcc (.suba m) (.subb m) r
  | .sbc => byAcc (.sbca m) (.sbcb m) r
  | .cmp => byAcc (.cmpa m) (.cmpb m) r
  | .and => byAcc (.anda m) (.andb m) r
  | .or => byAcc (.ora m) (.orb m) r
  | .eor => byAcc (.eora m) (.eorb m) r
  | .bit => byAcc (.bita m) (.bitb m) r

/-- The one-operand instructions, which have an A, a B and a memory form. -/
inductive UnaryOp
  | neg | inc | dec | com | lsr | asr | asl | rol | ror
  deriving DecidableEq, Repr

/-- The operations that leave H unspecified (93_implementation_defined.md U1). -/
def UnaryOp.leavesH : UnaryOp → Bool
  | .neg | .asr | .asl => true
  | _ => false

/-- The accumulator form. -/
def UnaryOp.accInstr (op : UnaryOp) (r : Acc) : Instr :=
  match op with
  | .neg => byAcc .nega .negb r
  | .inc => byAcc .inca .incb r
  | .dec => byAcc .deca .decb r
  | .com => byAcc .coma .comb r
  | .lsr => byAcc .lsra .lsrb r
  | .asr => byAcc .asra .asrb r
  | .asl => byAcc .asla .aslb r
  | .rol => byAcc .rola .rolb r
  | .ror => byAcc .rora .rorb r

/-- The memory form. -/
def UnaryOp.memInstr (op : UnaryOp) (e : MemForm) : Instr :=
  match op with
  | .neg => .neg e
  | .inc => .inc e
  | .dec => .dec e
  | .com => .com e
  | .lsr => .lsr e
  | .asr => .asr e
  | .asl => .asl e
  | .rol => .rol e
  | .ror => .ror e

/-- The loads of a 16-bit register. -/
def loadInstr16 (r : Reg16) (m : Src16) : Instr :=
  match r with
  | .d => .ldd m
  | .x => .ldx m
  | .y => .ldy m
  | .u => .ldu m
  | .s => .lds m

/-- The stores of a 16-bit register. -/
def storeInstr16 (r : Reg16) (e : MemForm) : Instr :=
  match r with
  | .d => .std e
  | .x => .stx e
  | .y => .sty e
  | .u => .stu e
  | .s => .sts e

/-- The compares of a 16-bit register. -/
def compareInstr16 (r : Reg16) (m : Src16) : Instr :=
  match r with
  | .d => .cmpd m
  | .x => .cmpx m
  | .y => .cmpy m
  | .u => .cmpu m
  | .s => .cmps m

/-- PSHS and PSHU, by the stack. -/
def pushInstr (k : Stack) (mask : Byte) : Instr :=
  match k with
  | .s => .pshs mask
  | .u => .pshu mask

/-- PULS and PULU, by the stack. -/
def pullInstr (k : Stack) (mask : Byte) : Instr :=
  match k with
  | .s => .puls mask
  | .u => .pulu mask

/-- SWI, SWI2 and SWI3, by the vector they load; NOP for the vectors that no instruction loads. -/
def softwareInterrupt : Vector → Instr
  | .swi => .swi
  | .swi2 => .swi2
  | .swi3 => .swi3
  | _ => .nop

/-- The instruction stores nothing: it has no memory destination and pushes nothing. -/
def Instr.storesNothing : Instr → Bool
  | .neg _ | .com _ | .lsr _ | .ror _ | .asr _ | .asl _ | .rol _ | .dec _ | .inc _ | .clr _
  | .sta _ | .stb _ | .std _ | .stx _ | .sty _ | .stu _ | .sts _
  | .pshs _ | .pshu _ | .bsr _ | .lbsr _ | .jsr _ | .swi | .swi2 | .swi3 | .cwai _ => false
  | _ => true

/-- The base register that the instruction's operand updates (40_addressing_modes.md R181 to R184). -/
def Instr.autoReg : Instr → Option IdxReg
  | .neg e | .com e | .lsr e | .ror e | .asr e | .asl e | .rol e | .dec e | .inc e | .tst e | .jmp e | .clr e
  | .sta e | .jsr e | .stx e | .stb e | .std e | .stu e | .sty e | .sts e => MemForm.autoReg e
  | .suba m | .cmpa m | .sbca m | .anda m | .bita m | .lda m | .eora m | .adca m | .ora m | .adda m
  | .subb m | .cmpb m | .sbcb m | .andb m | .bitb m | .ldb m | .eorb m | .adcb m | .orb m | .addb m => Src8.autoReg m
  | .subd m | .cmpx m | .ldx m | .addd m | .ldd m | .ldu m | .cmpd m | .cmpy m | .ldy m | .lds m | .cmpu m
  | .cmps m => Src16.autoReg m
  | .leax m | .leay m | .leas m | .leau m => Indexed.autoReg m
  | _ => none

/-- The addresses an instruction stores to, from the state it starts in, in the terms of its meaning: the effective address,
or the places below the stack pointer. -/
def Instr.storedAt (i : Instr) (s : State) : List Addr :=
  let below (p : Word) (n : Nat) : List Addr := (List.range n).map fun j => p - 1 - BitVec.ofNat 16 j
  match i with
  | .neg e | .com e | .lsr e | .ror e | .asr e | .asl e | .rol e | .dec e | .inc e | .clr e
  | .sta e | .stb e => [(MemForm.ea e s).1]
  | .std e | .stx e | .sty e | .stu e | .sts e => [(MemForm.ea e s).1, (MemForm.ea e s).1 + 1]
  | .pshs mask => below s.sp (frameBytes (selected mask pushOrder))
  | .pshu mask => below s.u (frameBytes (selected mask pushOrder))
  | .bsr _ | .lbsr _ => below s.sp 2
  | .jsr e => below (MemForm.ea e s).2.sp 2
  | .swi | .swi2 | .swi3 | .cwai _ => below s.sp 12
  | _ => []

/-- The instruction is a load of S (10_state.md R24). -/
def Instr.loadsS : Instr → Bool
  | .lds _ | .leas _ => true
  | .tfr src dst => (pairRegs src dst).any fun p => p.2 == .s
  | .exg src dst => (pairRegs src dst).any fun p => p.1 == .s || p.2 == .s
  | .pulu mask => mask.getLsbD 6
  | _ => false

/-- Two register names share storage: the same register, or D and one of its halves (10_state.md R21). -/
def Reg.shares (p q : Reg) : Bool :=
  p == q || (p == .d && (q == .a || q == .b)) || (q == .d && (p == .a || p == .b))

/-- The register that a postbyte bit of PSH and PUL names (30_encoding.md R143). -/
def StackItem.reg (k : Stack) : StackItem → Reg
  | .pc => .pc
  | .other =>
    match k with
    | .s => .u
    | .u => .s
  | .y => .y
  | .x => .x
  | .dp => .dp
  | .b => .b
  | .a => .a
  | .cc => .cc

/-- A base register by its name in TFR and EXG. -/
def IdxReg.reg : IdxReg → Reg
  | .x => .x
  | .y => .y
  | .u => .u
  | .s => .s

/-- The destination registers of an instruction other than CC and PC, with the stack pointers it moves; the base register
that its operand updates is `Instr.autoReg`. -/
def Instr.destinations : Instr → List Reg
  | .lda _ | .adda _ | .adca _ | .suba _ | .sbca _ | .anda _ | .ora _ | .eora _
  | .nega | .coma | .lsra | .rora | .asra | .asla | .rola | .deca | .inca | .clra | .daa | .sex => [.a]
  | .ldb _ | .addb _ | .adcb _ | .subb _ | .sbcb _ | .andb _ | .orb _ | .eorb _
  | .negb | .comb | .lsrb | .rorb | .asrb | .aslb | .rolb | .decb | .incb | .clrb => [.b]
  | .ldd _ | .addd _ | .subd _ | .mul => [.d]
  | .ldx _ | .leax _ | .abx => [.x]
  | .ldy _ | .leay _ => [.y]
  | .ldu _ | .leau _ | .pshu _ => [.u]
  | .lds _ | .leas _ | .pshs _ | .bsr _ | .lbsr _ | .jsr _ | .rts | .swi | .swi2 | .swi3 | .cwai _ => [.s]
  | .tfr src dst => ((pairRegs src dst).map fun p => [p.2]).getD []
  | .exg src dst => ((pairRegs src dst).map fun p => [p.1, p.2]).getD []
  | .puls mask => .s :: (selected mask pullOrder).map (StackItem.reg .s)
  | .pulu mask => .u :: (selected mask pullOrder).map (StackItem.reg .u)
  | .rti => [.s, .a, .b, .dp, .x, .y, .u]
  | _ => []

/-- The instructions that may write PC, beyond moving it past their own bytes. -/
def Instr.writesPc : Instr → Bool
  | .bra _ | .bhi _ | .bls _ | .bcc _ | .bcs _ | .bne _ | .beq _ | .bvc _ | .bvs _ | .bpl _ | .bmi _ | .bge _ | .blt _
  | .bgt _ | .ble _
  | .lbra _ | .lbhi _ | .lbls _ | .lbcc _ | .lbcs _ | .lbne _ | .lbeq _ | .lbvc _ | .lbvs _ | .lbpl _ | .lbmi _ | .lbge _
  | .lblt _ | .lbgt _ | .lble _
  | .bsr _ | .lbsr _ | .jsr _ | .jmp _ | .rts | .rti | .swi | .swi2 | .swi3 => true
  | .tfr src dst => (pairRegs src dst).any fun p => p.2 == .pc
  | .exg src dst => (pairRegs src dst).any fun p => p.1 == .pc || p.2 == .pc
  | .puls mask | .pulu mask => mask.getLsbD 7
  | _ => false

/-- The bits of CC that an instruction may write: the flag matrix of 10_state.md R36, with E, F and I (R28, R29, R31). -/
def Instr.flagMask : Instr → Byte
  | .lda _ | .ldb _ | .ldd _ | .ldx _ | .ldy _ | .ldu _ | .lds _ | .sta _ | .stb _ | .std _ | .stx _ | .sty _ | .stu _
  | .sts _ | .tst _ | .tsta | .tstb | .anda _ | .andb _ | .ora _ | .orb _ | .eora _ | .eorb _ | .bita _ | .bitb _
  | .inc _ | .inca | .incb | .dec _ | .deca | .decb => 0x0E
  | .leax _ | .leay _ => 0x04
  | .adda _ | .addb _ | .adca _ | .adcb _ | .suba _ | .subb _ | .sbca _ | .sbcb _ | .cmpa _ | .cmpb _
  | .neg _ | .nega | .negb | .asl _ | .asla | .aslb => 0x2F
  | .addd _ | .subd _ | .cmpd _ | .cmpx _ | .cmpy _ | .cmpu _ | .cmps _ | .clr _ | .clra | .clrb | .daa
  | .com _ | .coma | .comb | .rol _ | .rola | .rolb => 0x0F
  | .asr _ | .asra | .asrb => 0x2D
  | .lsr _ | .lsra | .lsrb | .ror _ | .rora | .rorb => 0x0D
  | .mul => 0x05
  | .sex => 0x0E
  | .andcc _ | .orcc _ | .cwai _ | .rti => 0xFF
  | .swi => 0xD0
  | .swi2 | .swi3 => 0x80
  | .tfr src dst => if (pairRegs src dst).any fun p => p.2 == .cc then 0xFF else 0x00
  | .exg src dst => if (pairRegs src dst).any fun p => p.1 == .cc || p.2 == .cc then 0xFF else 0x00
  | .puls mask | .pulu mask => if mask.getLsbD 0 then 0xFF else 0x00
  | _ => 0x00

/-! ### The spec's formulas -/

/-- The result and the flags of an accumulator operation, as its rule writes them (42_arithmetic.md R260, R261;
41_load_store_transfer.md R211; 43_logic_shift.md R320):
`a` the accumulator, `m` the operand, `h` what stands where H is unspecified. -/
def AccOp.rule (op : AccOp) (cc : CC) (h : Bool) (a m : Byte) : Byte × CC :=
  let moved (r : Byte) : CC := { cc with n := r.getLsbD 7, z := decide (r = 0x00), v := false }
  let added (c : Nat) : Byte × CC :=
    let r := BitVec.ofNat 8 ((a.toNat + m.toNat + c) % 256)
    (r, { cc with
          h := decide (a.toNat % 16 + m.toNat % 16 + c > 15)
          n := r.getLsbD 7
          z := decide (r = 0x00)
          v := decide (a.getLsbD 7 = m.getLsbD 7) && decide (r.getLsbD 7 ≠ a.getLsbD 7)
          c := decide (a.toNat + m.toNat + c > 255) })
  let subtracted (c : Nat) : Byte × CC :=
    let r := BitVec.ofInt 8 ((a.toNat : Int) - m.toNat - c)
    (r, { cc with
          h := h
          n := r.getLsbD 7
          z := decide (r = 0x00)
          v := decide (a.getLsbD 7 ≠ m.getLsbD 7) && decide (r.getLsbD 7 ≠ a.getLsbD 7)
          c := decide (a.toNat < m.toNat + c) })
  match op with
  | .ld => (m, moved m)
  | .add => added 0
  | .adc => added cc.c.toNat
  | .sub => subtracted 0
  | .sbc => subtracted cc.c.toNat
  | .cmp => (a, (subtracted 0).2)
  | .and => (a &&& m, moved (a &&& m))
  | .or => (a ||| m, moved (a ||| m))
  | .eor => (a ^^^ m, moved (a ^^^ m))
  | .bit => (a, moved (a &&& m))

/-- The result and the flags of a one-operand operation, as its rule writes them (42_arithmetic.md R281, R284, R287;
43_logic_shift.md R329, R332, R335, R338, R341, R344): `h` stands where H is unspecified. -/
def UnaryOp.rule (op : UnaryOp) (cc : CC) (h : Bool) (m : Byte) : Byte × CC :=
  let signed (r : Byte) : CC := { cc with n := r.getLsbD 7, z := decide (r = 0) }
  let c : Byte := if cc.c then 1 else 0
  match op with
  | .neg =>
    let r := BitVec.ofInt 8 (0 - (m.toNat : Int))
    (r, { signed r with v := decide (m = 0x80), c := decide (m ≠ 0x00), h := h })
  | .inc =>
    let r := BitVec.ofNat 8 ((m.toNat + 1) % 256)
    (r, { signed r with v := decide (m = 0x7F) })
  | .dec =>
    let r := BitVec.ofInt 8 ((m.toNat : Int) - 1)
    (r, { signed r with v := decide (m = 0x80) })
  | .com =>
    let r := BitVec.ofNat 8 (255 - m.toNat)
    (r, { signed r with v := false, c := true })
  | .lsr =>
    let r := BitVec.ofNat 8 (m.toNat / 2)
    (r, { signed r with n := false, c := m.getLsbD 0 })
  | .asr =>
    let r := BitVec.ofInt 8 (m.toInt / 2)
    (r, { signed r with c := m.getLsbD 0, h := h })
  | .asl =>
    let r := BitVec.ofNat 8 (2 * m.toNat % 256)
    (r, { signed r with v := m.getLsbD 7 ^^ m.getLsbD 6, c := m.getLsbD 7, h := h })
  | .rol =>
    let r := BitVec.ofNat 8 (2 * m.toNat % 256) ||| c
    (r, { signed r with v := m.getLsbD 7 ^^ m.getLsbD 6, c := m.getLsbD 7 })
  | .ror =>
    let r := BitVec.ofNat 8 (m.toNat / 2) ||| (c <<< 7)
    (r, { signed r with c := m.getLsbD 0 })

/-- `Add16`: the result and the flags (42_arithmetic.md R262). -/
def add16Rule (cc : CC) (a m : Word) : Word × CC :=
  let r := BitVec.ofNat 16 ((a.toNat + m.toNat) % 65536)
  (r, { cc with
        n := r.getLsbD 15
        z := decide (r = 0)
        v := decide (a.getLsbD 15 = m.getLsbD 15) && decide (r.getLsbD 15 ≠ a.getLsbD 15)
        c := decide (a.toNat + m.toNat > 65535) })

/-- `Sub16`: the result and the flags (42_arithmetic.md R263). -/
def sub16Rule (cc : CC) (a m : Word) : Word × CC :=
  let r := BitVec.ofInt 16 ((a.toNat : Int) - m.toNat)
  (r, { cc with
        n := r.getLsbD 15
        z := decide (r = 0)
        v := decide (a.getLsbD 15 ≠ m.getLsbD 15) && decide (r.getLsbD 15 ≠ a.getLsbD 15)
        c := decide (a.toNat < m.toNat) })

/-- The flags of a load, a store or a test of a byte (41_load_store_transfer.md R210). -/
def moved8 (cc : CC) (r : Byte) : CC := { cc with n := r.getLsbD 7, z := decide (r = 0), v := false }

/-- The flags of a load or a store of a word (41_load_store_transfer.md R210). -/
def moved16 (cc : CC) (r : Word) : CC := { cc with n := r.getLsbD 15, z := decide (r = 0), v := false }

/-- The unmapped bytes of page 1 (30_encoding.md R147). -/
def unmappedPage1 : List Nat :=
  [0x01, 0x02, 0x05, 0x0B, 0x14, 0x15, 0x18, 0x1B, 0x38, 0x3E, 0x41, 0x42, 0x45, 0x4B, 0x4E, 0x51, 0x52,
   0x55, 0x5B, 0x5E, 0x61, 0x62, 0x65, 0x6B, 0x71, 0x72, 0x75, 0x7B, 0x87, 0x8F, 0xC7, 0xCD, 0xCF]

/-- The invalid indexed postbytes (40_addressing_modes.md R195). -/
def invalidPostbytes : List Byte :=
  [0x87, 0x8A, 0x8E, 0x8F, 0x90, 0x92, 0x97, 0x9A, 0x9E, 0xA7, 0xAA, 0xAE, 0xAF, 0xB0, 0xB2, 0xB7,
   0xBA, 0xBE, 0xBF, 0xC7, 0xCA, 0xCE, 0xCF, 0xD0, 0xD2, 0xD7, 0xDA, 0xDE, 0xDF, 0xE7, 0xEA, 0xEE,
   0xEF, 0xF0, 0xF2, 0xF7, 0xFA, 0xFE, 0xFF]

/-- The record of the fault that a rejected instruction raises (60_exceptions.md R522, R525). -/
def Reject.record (r : Reject) (start : Addr) : FaultRecord :=
  match r with
  | .invalidOpcode key => ⟨.invalidOpcode, key, start⟩
  | .invalidPostbyte pb => ⟨.invalidPostbyte, zext8 pb, start⟩

/-! ### Stack frames -/

/-- The bytes a register puts on a stack, in push order: the low byte of a word first (45_stack_system.md R420). -/
def State.itemBytes (s : State) (k : Stack) : StackItem → List Byte
  | .pc => [loByte s.pc, hiByte s.pc]
  | .other =>
    match k with
    | .s => [loByte s.u, hiByte s.u]
    | .u => [loByte s.sp, hiByte s.sp]
  | .y => [loByte s.y, hiByte s.y]
  | .x => [loByte s.x, hiByte s.x]
  | .dp => [s.dp]
  | .b => [s.b]
  | .a => [s.a]
  | .cc => [s.cc.toByte]

/-- The bytes a list of registers puts on a stack, in push order. -/
def State.frame (s : State) (k : Stack) (is : List StackItem) : List Byte := is.flatMap (s.itemBytes k)

/-- The bytes an interrupt entry puts on the S stack, in push order (60_exceptions.md R533 to R536). -/
def State.interruptFrame (s : State) : Interrupt → List Byte
  | .firq => (s.setE false).frame .s [.pc, .cc]
  | _ => (s.setE true).frame .s pushOrder

/-- Pushing these bytes below `p` issues no DEFRAG command (49_mmu_commands.md R488). -/
def State.pushesClear (s : State) : Word → List Byte → Bool
  | _, [] => true
  | p, v :: vs => !s.issuesDefrag (p - 1) v && s.pushesClear (p - 1) vs

/-- The `n` bytes below `p` lie in RAM. -/
def State.ramBelow (s : State) : Word → Nat → Bool
  | _, 0 => true
  | p, n + 1 => s.inRam (p - 1) && s.ramBelow (p - 1) n

/-- `t` holds the bytes below `p`, the first one at `p - 1`, and every other address reads as in `s`. -/
def PushedBelow (s t : State) (p : Word) (bs : List Byte) : Prop :=
  (∀ j, (h : j < bs.length) → t.peek (p - 1 - BitVec.ofNat 16 j) = some bs[j]) ∧
    ∀ a, (∀ j < bs.length, a ≠ p - 1 - BitVec.ofNat 16 j) → t.peek a = s.peek a

/-- Where a register lies in the bytes that a pull takes: the bytes of the registers pulled before it
(45_stack_system.md R422). -/
def pullOffset (mask : Byte) (i : StackItem) : Nat := frameBytes (selected mask (pullOrder.takeWhile fun j => j != i))

end Sys2Proof.Machine
end

