-- ==== Sys2Proof/Certificates/Slice0/Obligations.lean ====
section
/-! DEFINITION. The statements for the provers. A read names its state afterwards too: `Src8.read m s` is the byte and the
state in which the base register is updated and the side effects of the read have happened. -/

section

open Sys2Proof Sys2Proof.Machine

/-! ### Encoding -/

/-- 30_encoding.md R133 to R146, 40_addressing_modes.md R196: decoding the bytes of any instruction, whatever follows them,
gives the instruction back and leaves the rest. -/
def Obligations.DecodeEncode : Prop :=
  ∀ (i : Instr) (rest : List Byte), decode (encode i ++ rest) = .ok (i, rest)

/-- 30_encoding.md R145, R146: bytes that decode are the encoding of what they decode to, with the rest after it. -/
def Obligations.EncodeDecode : Prop :=
  ∀ (bs : List Byte) (i : Instr) (rest : List Byte), decode bs = .ok (i, rest) → bs = encode i ++ rest

/-- Words written out from 30_encoding.md R146 and 40_addressing_modes.md R196 decode to what they stand for. -/
def Obligations.DecodeSampleWords : Prop :=
  decode [0x86, 0x2A] = .ok (.lda (.imm 0x2A), []) ∧
    decode [0xB7, 0x12, 0x34] = .ok (.sta (.ext 0x1234), []) ∧
    decode [0x10, 0xAE, 0x89, 0x12, 0x34] = .ok (.ldy (.mem (.idx (.reg .x false (.off16 0x1234)))), []) ∧
    decode [0x63, 0xA4] = .ok (.com (.idx (.reg .y false .zero)), []) ∧
    decode [0x10, 0x27, 0xFF, 0xFE] = .ok (.lbeq 0xFFFE, []) ∧
    decode [0x1F, 0x8B] = .ok (.tfr 8 11, []) ∧
    decode [0x35, 0x96] = .ok (.puls 0x96, []) ∧
    decode [0x11, 0x3F, 0x12] = .ok (.swi3, [0x12])

/-- 30_encoding.md R147, R149; 40_addressing_modes.md R195: the unmapped keys, the repeated prefixes among them, and the
invalid indexed postbytes, which are rejected before any extension byte. -/
def Obligations.UndefinedEncodings : Prop :=
  (∀ b0 : Byte, b0 ≠ 0x10 → b0 ≠ 0x11 → (lookupKey b0.toNat = none ↔ b0.toNat ∈ unmappedPage1)) ∧
    ((List.range 256).filter fun k => (lookupKey (0x1000 + k)).isNone).length = 218 ∧
    ((List.range 256).filter fun k => (lookupKey (0x1100 + k)).isNone).length = 247 ∧
    (∀ (b0 : Byte) (rest : List Byte), b0.toNat ∈ unmappedPage1 →
      decode (b0 :: rest) = .error (.rejected (.invalidOpcode (zext8 b0)))) ∧
    (∀ (b0 b1 : Byte) (rest : List Byte), b0 = 0x10 ∨ b0 = 0x11 → lookupKey (joinBytes b0 b1).toNat = none →
      decode (b0 :: b1 :: rest) = .error (.rejected (.invalidOpcode (joinBytes b0 b1)))) ∧
    (∀ k ∈ [0x1010, 0x1011, 0x1110, 0x1111], lookupKey k = none) ∧
    ∀ (f : Indexed → Instr) (pb : Byte) (rest : List Byte),
      (indexedReader f).decodeList (pb :: rest) = .error (.rejected (.invalidPostbyte pb)) ↔ pb ∈ invalidPostbytes

/-! ### The step -/

/-- 60_exceptions.md R520, 30_encoding.md R132: an evaluation that enters no interrupt runs the instruction whose bytes lie
at PC, with PC past them and the history bit updated (R528). Nothing is said of the cycle count (70_reset_and_hazards.md R597). -/
def Obligations.StepRunsInstruction : Prop :=
  ∀ (s : State) (i : Instr) (bs : List Byte), s.Evaluates → s.wait = .normal → s.NoInterrupt →
    decode bs = .ok (i, []) → s.bytesAt s.pc bs = true →
    ∃ n, step s = exec i { s with nmiHist := s.nmiN, pc := s.pc + BitVec.ofNat 16 bs.length, busy := n }

/-- 60_exceptions.md R522, R524, R525: bytes at PC that are rejected, at the last of them, record the fault with the
instruction's start; PC is left past the bytes consumed, and nothing else changes. -/
def Obligations.RejectedBytesFault : Prop :=
  ∀ (s : State) (bs : List Byte) (r : Reject), s.Evaluates → s.wait = .normal → s.NoInterrupt →
    decode bs = .error (.rejected r) → (∀ n < bs.length, decode (bs.take n) = .error .truncated) →
    s.bytesAt s.pc bs = true →
    step s = .next { s with
      nmiHist := s.nmiN
      pc := s.pc + BitVec.ofNat 16 bs.length
      busy := 0
      fault := some (Reject.record r s.pc) }

/-- 41_load_store_transfer.md R229, R230, 60_exceptions.md R525: TFR and EXG whose postbyte names no register or mixes widths
record InvalidPostbyte and write no register. PC is past the two bytes. That the fault is a next state of `exec`, and that the
instruction starts at PC - 2, is the model's reading (log 8). -/
def Obligations.TransferFault : Prop :=
  ∀ (s : State) (src dst : BitVec 4), s.defragIssued = false → pairRegs src dst = none →
    exec (.tfr src dst) s
      = .next { s with busy := 0, fault := some ⟨.invalidPostbyte, zext8 (src ++ dst), s.pc - 2⟩ } ∧
    exec (.exg src dst) s
      = .next { s with busy := 0, fault := some ⟨.invalidPostbyte, zext8 (src ++ dst), s.pc - 2⟩ }

/-- 60_exceptions.md R520, R524: a halted machine does nothing, and a machine that counts down only counts down. -/
def Obligations.HaltedAndIdleTicks : Prop :=
  (∀ s : State, s.cfg.wf = true → s.fault ≠ none → step s = .next s) ∧
    ∀ s : State, s.cfg.wf = true → s.fault = none → 0 < s.busy → step s = .next { s with busy := s.busy - 1 }

/-- 70_reset_and_hazards.md R580: what the reset input writes, and that the tick after it evaluates without an interrupt. -/
def Obligations.ResetInput : Prop :=
  ∀ (s : State) (hi lo : Byte), s.peek 0xFFFE = some hi → s.peek 0xFFFF = some lo →
    s.resetInput = { s with
      dp := 0x00
      cc := { s.cc with f := true, i := true }
      nmiDisabled := true
      nmiHist := true
      wait := .normal
      busy := 0
      fault := none
      pc := joinBytes hi lo } ∧
    s.resetInput.NoInterrupt ∧ (s.cfg.wf = true → s.defragIssued = false → s.resetInput.Evaluates)

/-- 10_state.md R70: the values that the table of reset values gives. -/
def Obligations.ResetState : Prop :=
  State.reset.pc = (read16 State.reset 0xFFFE).1 ∧
    State.reset.cc.f = true ∧ State.reset.cc.i = true ∧ State.reset.dp = 0x00 ∧
    State.reset.nmiDisabled = true ∧ State.reset.nmiHist = true ∧ State.reset.wait = .normal ∧
    State.reset.busy = 0 ∧ State.reset.fault = none ∧
    (∀ i : Word, (State.reset.mmu.node i).status = 0x00 ∧ (∀ j, Memory.read (State.reset.mmu.node i).data j = 0x00) ∧
      (State.reset.mmu.node i).root = 0xFFFF ∧ (State.reset.mmu.node i).prev = 0xFFFF ∧
      (State.reset.mmu.node i).next = 0xFFFF) ∧
    State.reset.mmu.bankSel1 = 0xFFFF ∧ State.reset.mmu.bankSel2 = 0xFFFF ∧
    State.reset.mmu.blocksFree.toNat = 52428 ∧ State.reset.mmu.blocksAllocated = 0 ∧ State.reset.mmu.blocksFragged = 0 ∧
    State.reset.mmu.arg1 = 0 ∧ State.reset.mmu.arg2 = 0 ∧ State.reset.mmu.rawIndex = 0 ∧
    State.reset.mmu.command = 0 ∧ State.reset.mmu.error = 0

/-- The state after reset is sound, and its pool meets 10_state.md R49. The reference configuration and the canonical forms
are the model's (logs 1 and 3). -/
def Obligations.ResetSound : Prop :=
  State.reset.sound = true ∧ State.reset.mmu.ChainsOk ∧ State.reset.mmu.CountsOk

/-- Every step keeps a state sound: configuration well-formed, memories and pool canonical with indices in range and status
bits 5 to 7 clear, `blocks_free + blocks_allocated = NODES` (10_state.md R47, R49 (g)), no fault kind that no rule raises
(60_exceptions.md R523), a halted machine not counting (R524). -/
def Obligations.StepKeepsSound : Prop :=
  ∀ s t : State, s.sound = true → step s = .next t → t.sound = true

/-- 00_scope.md R8, 10_state.md R24, R38, R40, R43, R69: no step changes the configuration, the input lines or a ROM, sets
`nmi_disabled`, or clears the fault latch. -/
def Obligations.StepKeepsConfiguration : Prop :=
  ∀ s t : State, step s = .next t →
    t.cfg = s.cfg ∧ t.rom = s.rom ∧ t.nmiN = s.nmiN ∧ t.firqN = s.firqN ∧ t.irqN = s.irqN ∧
      (s.nmiDisabled = false → t.nmiDisabled = false) ∧ (s.fault ≠ none → t = s)

/-! ### Frames -/

/-- 10_state.md R20, R21: an instruction changes no register but its destinations, the base register its operand updates, CC
where it writes a flag, and PC where it transfers control (`Instr.destinations`, `Instr.autoReg`, `Instr.flagMask`,
`Instr.writesPc`). -/
def Obligations.RegisterFrame : Prop :=
  ∀ (i : Instr) (s t : State) (q : Reg), exec i s = .next t →
    (∀ p ∈ Instr.destinations i, Reg.shares q p = false) →
    (∀ r, Instr.autoReg i = some r → q ≠ IdxReg.reg r) →
    (q = .cc → Instr.flagMask i = 0x00) → (q = .pc → Instr.writesPc i = false) →
    t.regRead q = s.regRead q

/-- 10_state.md R36, with R28, R29 and R31: an instruction changes no bit of CC that the flag matrix does not name for it. -/
def Obligations.FlagFrame : Prop :=
  ∀ (i : Instr) (s t : State) (j : Nat), exec i s = .next t → (Instr.flagMask i).getLsbD j = false →
    t.cc.toByte.getLsbD j = s.cc.toByte.getLsbD j

/-- 10_state.md R24, R38 to R43: what is left of the machine. Only the loads of S clear `nmi_disabled`, and they do; only SYNC
and CWAI write `wait`; only TFR and EXG (with an invalid postbyte) record a fault. -/
def Obligations.ControlFrame : Prop :=
  ∀ (i : Instr) (s t : State), exec i s = .next t →
    t.cfg = s.cfg ∧ t.nmiHist = s.nmiHist ∧ t.nmiN = s.nmiN ∧ t.firqN = s.firqN ∧ t.irqN = s.irqN ∧ t.rom = s.rom ∧
      t.nmiDisabled = (s.nmiDisabled && !Instr.loadsS i) ∧
      (i ≠ .sync → (∀ v, i ≠ .cwai v) → t.wait = s.wait) ∧
      ((∀ p q, i ≠ .tfr p q ∧ i ≠ .exg p q) → t.fault = s.fault)

/-- 20_memory.md R89, R91: an instruction with no memory destination that pushes nothing changes no byte of memory; the reads
of its operand may set ERROR and clear COMMAND, where a window fails (R95). -/
def Obligations.StorelessFrame : Prop :=
  ∀ (i : Instr) (s t : State), Instr.storesNothing i = true → exec i s = .next t → MemoryUnchanged s t

/-- 20_memory.md R82, R89, 45_stack_system.md R420: an instruction writes RAM nowhere but at the addresses it stores to, and
ROM nowhere; where these addresses are RAM, every other byte outside the MMU registers reads as before. -/
def Obligations.StoreFrame : Prop :=
  ∀ (i : Instr) (s t : State), exec i s = .next t →
    (∀ a : Addr, a ∉ Instr.storedAt i s → Memory.read t.ram a.toNat = Memory.read s.ram a.toNat) ∧
    t.rom = s.rom ∧
    ((∀ a ∈ Instr.storedAt i s, s.inRam a = true) →
      ∀ a : Addr, a ∉ Instr.storedAt i s → s.inMmuBlock a = false → t.peek a = s.peek a)

/-! ### Stops -/

/-- No instruction faults the machine (a CPU fault is a next state, log 8), and it refuses nothing but DEFRAG
(49_mmu_commands.md R488, log 7); the step stops for an ill-formed configuration, for DEFRAG, and for nothing else
(60_exceptions.md R560, 20_memory.md R84). Which ill-formed configuration is a fault and which a refusal is the model's reading
(log 11). -/
def Obligations.NamedStops : Prop :=
  (∀ (i : Instr) (s : State) (f : Fault), exec i s ≠ .fault f) ∧
    (∀ (i : Instr) (s : State) (r : Refusal), exec i s = .refused r → r = .defragUnspecified) ∧
    (∀ s : State, step s = .fault .busConfiguration ↔ busOk s.cfg.memMap = false) ∧
    (∀ s : State, step s = .refused .illFormedConfiguration ↔ busOk s.cfg.memMap = true ∧ s.cfg.tablesOk = false) ∧
    ∀ (s : State) (r : Refusal), step s = .refused r → r = .defragUnspecified ∨ r = .illFormedConfiguration

/-- 49_mmu_commands.md R488, 10_state.md R64: every instruction and every interrupt entry that writes the DEFRAG code to
`COMMAND` is refused: the byte and word stores, CLR, the read-modify-write instructions, the pushes, the calls, the software
interrupts and CWAI, and the frame of NMI, FIRQ and IRQ. That the refusal comes at the end of the instruction or the entry is
the model's reading (log 7). -/
def Obligations.DefragRefused : Prop :=
  let refuses (i : Instr) (s : State) : Prop := exec i s = .refused .defragUnspecified
  (∀ (r : Acc) (e : MemForm) (s : State),
    s.issuesDefrag (MemForm.ea e s).1 ((MemForm.ea e s).2.acc r) = true → refuses (byAcc (.sta e) (.stb e) r) s) ∧
  (∀ (r : Reg16) (e : MemForm) (s : State),
    let p := MemForm.ea e s
    s.issuesDefrag p.1 (hiByte (p.2.reg16 r)) = true ∨ s.issuesDefrag (p.1 + 1) (loByte (p.2.reg16 r)) = true →
    refuses (storeInstr16 r e) s) ∧
  (∀ (e : MemForm) (s : State), s.issuesDefrag (MemForm.ea e s).1 0x00 = true → refuses (.clr e) s) ∧
  (∀ (op : UnaryOp) (e : MemForm) (s : State),
    let p := MemForm.ea e s
    let v := busRead p.2 p.1
    s.issuesDefrag p.1 (op.rule v.2.cc (Config.freeFlag v.2.draws) v.1).1 = true → refuses (op.memInstr e) s) ∧
  (∀ (k : Stack) (mask : Byte) (s : State),
    s.pushesClear (s.stackPtr k) (s.frame k (selected mask pushOrder)) = false → refuses (pushInstr k mask) s) ∧
  (∀ s : State, s.pushesClear s.sp [loByte s.pc, hiByte s.pc] = false →
    (∀ off : Byte, refuses (.bsr off) s) ∧ ∀ off : Word, refuses (.lbsr off) s) ∧
  (∀ (e : MemForm) (s : State),
    s.pushesClear (MemForm.ea e s).2.sp [loByte s.pc, hiByte s.pc] = false → refuses (.jsr e) s) ∧
  (∀ (v : Sys2Proof.Vector) (s : State), v ∈ [Sys2Proof.Vector.swi, .swi2, .swi3] →
    s.pushesClear s.sp ((s.setE true).frame .s pushOrder) = false → refuses (softwareInterrupt v) s) ∧
  (∀ (v : Byte) (s : State),
    s.pushesClear s.sp (((s.andCC v).setE true).frame .s pushOrder) = false → refuses (.cwai v) s) ∧
  ∀ (s : State) (k : Interrupt), s.Evaluates → s.accepts k = true →
    (s.wait ≠ .cwai ∨ s.cfg.cwaiEntryRestacks = true) → s.pushesClear s.sp (s.interruptFrame k) = false →
    step s = .refused .defragUnspecified

/-! ### Accumulators, arithmetic and logic -/

/-- 42_arithmetic.md R260, R264 to R267, 41_load_store_transfer.md R211, R212, 43_logic_shift.md R321 to R328: LD, ADD, ADC,
AND, OR, EOR and BIT, for both accumulators and every operand form, complete with the result and the flags of their rules,
and change nothing else. -/
def Obligations.AccumulatorOperations : Prop :=
  ∀ (op : AccOp) (r : Acc) (m : Src8) (s : State) (h : Bool), op.subtracts = false → s.defragIssued = false →
    let v := Src8.read m s
    let p := op.rule v.2.cc h (v.2.acc r) v.1
    Completes (exec (op.instr r m) s) { v.2.setAcc r p.1 with cc := p.2 }

/-- 42_arithmetic.md R261, R268 to R273: SUB, SBC and CMP, for both accumulators and every operand form. H is left
unspecified: it is the next free value (log 6), and nothing is stated of it. -/
def Obligations.AccumulatorSubtracts : Prop :=
  ∀ (op : AccOp) (r : Acc) (m : Src8) (s : State), op.subtracts = true → s.defragIssued = false →
    let v := Src8.read m s
    let p := op.rule v.2.cc (Config.freeFlag v.2.draws) (v.2.acc r) v.1
    Completes (exec (op.instr r m) s) { v.2.setAcc r p.1 with cc := p.2, draws := v.2.draws + 1 }

/-- 42_arithmetic.md R262, R263, R274 to R280: ADDD, SUBD and the 16-bit compares. -/
def Obligations.WordArithmetic : Prop :=
  (∀ (m : Src16) (s : State), s.defragIssued = false →
    let v := Src16.read m s
    let p := add16Rule v.2.cc v.2.d v.1
    Completes (exec (.addd m) s) { v.2.setD p.1 with cc := p.2 }) ∧
  (∀ (m : Src16) (s : State), s.defragIssued = false →
    let v := Src16.read m s
    let p := sub16Rule v.2.cc v.2.d v.1
    Completes (exec (.subd m) s) { v.2.setD p.1 with cc := p.2 }) ∧
  ∀ (r : Reg16) (m : Src16) (s : State), s.defragIssued = false →
    let v := Src16.read m s
    Completes (exec (compareInstr16 r m) s) { v.2 with cc := (sub16Rule v.2.cc (v.2.reg16 r) v.1).2 }

/-- 10_state.md R34: V is two's-complement overflow: the exact signed sum or difference, with the carry or borrow in, does
not fit the width. -/
def Obligations.SignedOverflow : Prop :=
  (∀ (cc : CC) (a m : Byte) (c : Bool),
    (cc.add8 a m c).v = true ↔ a.toInt + m.toInt + c.toNat < -128 ∨ 127 < a.toInt + m.toInt + c.toNat) ∧
  (∀ (cc : CC) (h : Bool) (a m : Byte) (c : Bool),
    (cc.sub8 h a m c).v = true ↔ a.toInt - m.toInt - c.toNat < -128 ∨ 127 < a.toInt - m.toInt - c.toNat) ∧
  (∀ (cc : CC) (a m : Word), (cc.add16 a m).v = true ↔ a.toInt + m.toInt < -32768 ∨ 32767 < a.toInt + m.toInt) ∧
  ∀ (cc : CC) (a m : Word), (cc.sub16 a m).v = true ↔ a.toInt - m.toInt < -32768 ∨ 32767 < a.toInt - m.toInt

/-- 42_arithmetic.md R282 to R289, 43_logic_shift.md R330 to R346: the eighteen one-operand instructions on an accumulator.
Where the rule leaves H unspecified it is the next free value, which the counter `draws` numbers (log 6), and nothing is stated
of it. -/
def Obligations.UnaryAccumulators : Prop :=
  ∀ (op : UnaryOp) (r : Acc) (s : State), s.defragIssued = false →
    let p := op.rule s.cc (Config.freeFlag s.draws) (s.acc r)
    Completes (exec (op.accInstr r) s)
      { s.setAcc r p.1 with cc := p.2, draws := if op.leavesH then s.draws + 1 else s.draws }

/-- 42_arithmetic.md R281, R284, R287, 43_logic_shift.md R329 to R344, 20_memory.md R89: the nine one-operand instructions on
memory read EA once and write it once, with the result and the flags of their rules. Where the rule leaves H unspecified it is
the next free value, which the counter `draws` numbers (log 6). -/
def Obligations.UnaryMemory : Prop :=
  ∀ (op : UnaryOp) (e : MemForm) (s : State), s.defragIssued = false →
    let p := MemForm.ea e s
    let v := busRead p.2 p.1
    let w := op.rule v.2.cc (Config.freeFlag v.2.draws) v.1
    s.issuesDefrag p.1 w.1 = false →
    Completes (exec (op.memInstr e) s)
      (busWrite { v.2 with cc := w.2, draws := if op.leavesH then v.2.draws + 1 else v.2.draws } p.1 w.1)

/-- 42_arithmetic.md R290 to R295: TST sets N and Z from the byte and clears V, and writes nothing; CLR writes 0 without
reading and leaves N, Z, V, C at 0, 1, 0, 0. -/
def Obligations.TestAndClear : Prop :=
  (∀ (e : MemForm) (s : State), s.defragIssued = false →
    let p := MemForm.ea e s
    let v := busRead p.2 p.1
    Completes (exec (.tst e) s) { v.2 with cc := moved8 v.2.cc v.1 }) ∧
  (∀ (r : Acc) (s : State), s.defragIssued = false →
    Completes (exec (byAcc .tsta .tstb r) s) { s with cc := moved8 s.cc (s.acc r) } ∧
      Completes (exec (byAcc .clra .clrb r) s)
        { s.setAcc r 0x00 with cc := { s.cc with n := false, z := true, v := false, c := false } }) ∧
  ∀ (e : MemForm) (s : State), s.defragIssued = false →
    let p := MemForm.ea e s
    s.issuesDefrag p.1 0x00 = false →
    Completes (exec (.clr e) s)
      { busWrite p.2 p.1 0x00 with cc := { s.cc with n := false, z := true, v := false, c := false } }

/-- 42_arithmetic.md R296, R298, R299, 43_logic_shift.md R347, R348: MUL, SEX, ABX, ANDCC and ORCC. SEX clears V only where the
parameter `SEX_CLEARS_V` says so. -/
def Obligations.InherentOperations : Prop :=
  ∀ s : State, s.defragIssued = false →
    let p := BitVec.ofNat 16 (s.a.toNat * s.b.toNat)
    let w : Word := BitVec.ofInt 16 s.b.toInt
    Completes (exec .mul s) { s.setD p with cc := { s.cc with z := decide (p = 0), c := p.getLsbD 7 } } ∧
    Completes (exec .sex s)
      { s.setD w with
        cc := { s.cc with
          n := w.getLsbD 15
          z := decide (w = 0)
          v := if s.cfg.sexClearsV then false else s.cc.v } } ∧
    Completes (exec .abx s) { s with x := BitVec.ofNat 16 ((s.x.toNat + s.b.toNat) % 65536) } ∧
    ∀ v : Byte,
      Completes (exec (.andcc v) s) { s with cc := CC.ofByte (s.cc.toByte &&& v) } ∧
        Completes (exec (.orcc v) s) { s with cc := CC.ofByte (s.cc.toByte ||| v) }

/-- 42_arithmetic.md R297: DAA, with V the next free value, which the counter `draws` numbers (log 6); and what it is for: after an addition of two packed-BCD bytes with
a carry in, it leaves the decimal sum in A and C. -/
def Obligations.DecimalAdjust : Prop :=
  (∀ s : State, s.defragIssued = false →
    let low := s.a.toNat % 16
    let high := s.a.toNat / 16
    let cf := (if s.cc.h = true ∨ 9 < low then 0x06 else 0) +
      (if s.cc.c = true ∨ 9 < high ∨ (8 < high ∧ 9 < low) then 0x60 else 0)
    let r := BitVec.ofNat 8 ((s.a.toNat + cf) % 256)
    Completes (exec .daa s)
      { s with
        a := r
        draws := s.draws + 1
        cc := { s.cc with
          n := r.getLsbD 7
          z := decide (r = 0)
          v := Config.freeFlag s.draws
          c := s.cc.c || decide (s.a.toNat + cf > 255) } }) ∧
  ∀ (cc : CC) (x1 x0 y1 y0 : Nat) (c v : Bool), x1 < 10 → x0 < 10 → y1 < 10 → y0 < 10 →
    let x : Byte := BitVec.ofNat 8 (16 * x1 + x0)
    let y : Byte := BitVec.ofNat 8 (16 * y1 + y0)
    let f := cc.add8 x y c
    let sum := 10 * x1 + x0 + (10 * y1 + y0) + c.toNat
    daa8 (add8 x y c) f.h f.c = BitVec.ofNat 8 (16 * (sum % 100 / 10) + sum % 10) ∧
      (f.daa v (add8 x y c)).c = decide (sum > 99)

/-! ### Loads, stores, addresses, transfers -/

/-- 41_load_store_transfer.md R210, R213 to R217: the 16-bit loads; LDS is a load of S and clears `nmi_disabled`
(10_state.md R24). -/
def Obligations.LoadWords : Prop :=
  ∀ (r : Reg16) (m : Src16) (s : State), s.defragIssued = false →
    let v := Src16.read m s
    Completes (exec (loadInstr16 r m) s) { v.2.loadReg16 r v.1 with cc := moved16 v.2.cc v.1 }

/-- 41_load_store_transfer.md R210, R218 to R224, 20_memory.md R86: the stores, of the register as it is after the addressing
mode (40_addressing_modes.md R197); the flags come from the register. -/
def Obligations.Stores : Prop :=
  (∀ (r : Acc) (e : MemForm) (s : State), s.defragIssued = false →
    let p := MemForm.ea e s
    let v := p.2.acc r
    s.issuesDefrag p.1 v = false →
    Completes (exec (byAcc (.sta e) (.stb e) r) s) { busWrite p.2 p.1 v with cc := moved8 s.cc v }) ∧
  ∀ (r : Reg16) (e : MemForm) (s : State), s.defragIssued = false →
    let p := MemForm.ea e s
    let w := p.2.reg16 r
    s.issuesDefrag p.1 (hiByte w) = false → s.issuesDefrag (p.1 + 1) (loByte w) = false →
    Completes (exec (storeInstr16 r e) s)
      { busWrite (busWrite p.2 p.1 (hiByte w)) (p.1 + 1) (loByte w) with cc := moved16 s.cc w }

/-- 41_load_store_transfer.md R225 to R228: LEAX and LEAY write Z and no other flag, LEAS and LEAU no flag; LEAS is a load of
S. -/
def Obligations.LoadEffectiveAddress : Prop :=
  ∀ (m : Indexed) (s : State), s.defragIssued = false →
    let p := Indexed.ea m s
    Completes (exec (.leax m) s) { p.2 with x := p.1, cc := { s.cc with z := decide (p.1 = 0) } } ∧
      Completes (exec (.leay m) s) { p.2 with y := p.1, cc := { s.cc with z := decide (p.1 = 0) } } ∧
      Completes (exec (.leas m) s) { p.2 with sp := p.1, nmiDisabled := false } ∧
      Completes (exec (.leau m) s) { p.2 with u := p.1 }

/-- 40_addressing_modes.md R180 to R194, 20_memory.md R87: the effective address of every indexed form as the low 16 bits of
an exact sum, the base register after the auto-increment and auto-decrement forms, `[,R++]` and `[,--R]` among them, and the
level of indirection, whose pointer is read in the state with the base register updated (R194); direct and extended addresses
(R174, R175). -/
def Obligations.OperandAddresses : Prop :=
  ∀ (s : State) (r : IdxReg),
    let sum (a : Word) (n : Int) : Word := BitVec.ofInt 16 ((a.toNat : Int) + n)
    (∀ n : BitVec 5, (Indexed.ea (.off5 r n) s).1 = sum (s.base r) n.toInt) ∧
    (Indexed.ea (.postInc1 r) s).1 = s.base r ∧ (Indexed.ea (.postInc1 r) s).2.base r = sum (s.base r) 1 ∧
    (Indexed.ea (.preDec1 r) s).1 = sum (s.base r) (-1) ∧
    (Indexed.ea (.preDec1 r) s).2.base r = sum (s.base r) (-1) ∧
    (Indexed.ea (.reg r false .postInc2) s).1 = s.base r ∧
    (Indexed.ea (.reg r false .postInc2) s).2.base r = sum (s.base r) 2 ∧
    (Indexed.ea (.reg r false .preDec2) s).1 = sum (s.base r) (-2) ∧
    (Indexed.ea (.reg r false .preDec2) s).2.base r = sum (s.base r) (-2) ∧
    (Indexed.ea (.reg r false .zero) s).1 = s.base r ∧
    (Indexed.ea (.reg r false .accA) s).1 = sum (s.base r) s.a.toInt ∧
    (Indexed.ea (.reg r false .accB) s).1 = sum (s.base r) s.b.toInt ∧
    (Indexed.ea (.reg r false .accD) s).1 = sum (s.base r) s.d.toInt ∧
    (∀ n : Byte, (Indexed.ea (.reg r false (.off8 n)) s).1 = sum (s.base r) n.toInt ∧
      (Indexed.ea (.pcr8 r false n) s).1 = sum s.pc n.toInt) ∧
    (∀ n : Word, (Indexed.ea (.reg r false (.off16 n)) s).1 = sum (s.base r) n.toInt ∧
      (Indexed.ea (.pcr16 r false n) s).1 = sum s.pc n.toInt) ∧
    (∀ m : IdxMode, (Indexed.ea (.reg r true m) s).1
      = (read16 (Indexed.ea (.reg r false m) s).2 (Indexed.ea (.reg r false m) s).1).1) ∧
    (Indexed.ea (.reg r true .postInc2) s).2.base r = sum (s.base r) 2 ∧
    (Indexed.ea (.reg r true .preDec2) s).2.base r = sum (s.base r) (-2) ∧
    (∀ n : Byte, (Indexed.ea (.pcr8 r true n) s).1
      = (read16 (Indexed.ea (.pcr8 r false n) s).2 (Indexed.ea (.pcr8 r false n) s).1).1) ∧
    (∀ n : Word, (Indexed.ea (.pcr16 r true n) s).1
      = (read16 (Indexed.ea (.pcr16 r false n) s).2 (Indexed.ea (.pcr16 r false n) s).1).1) ∧
    (∀ (a : Addr) (hi lo : Byte), s.peek a = some hi → s.peek (a + 1) = some lo →
      (Indexed.ea (.extInd a) s).1 = joinBytes hi lo) ∧
    (∀ lo : Byte, (MemForm.ea (.dir lo) s).1.toNat = 256 * s.dp.toNat + lo.toNat) ∧
    ∀ a : Addr, MemForm.ea (.ext a) s = (a, s)

/-- 41_load_store_transfer.md R229, R230: TFR copies the source, EXG swaps the two, for registers of one width; every register
that shares no storage with a destination keeps its value, and memory is not touched. -/
def Obligations.TransferExchange : Prop :=
  ∀ (s : State) (src dst : BitVec 4) (r q : Reg), s.defragIssued = false → pairRegs src dst = some (r, q) →
    (∃ t, exec (.tfr src dst) s = .next t ∧ t.regRead q = s.regRead r ∧
      (∀ p, Reg.shares p q = false → t.regRead p = s.regRead p) ∧ MemoryUnchanged s t) ∧
    ∃ t, exec (.exg src dst) s = .next t ∧ t.regRead q = s.regRead r ∧ t.regRead r = s.regRead q ∧
      (∀ p, Reg.shares p q = false → Reg.shares p r = false → t.regRead p = s.regRead p) ∧ MemoryUnchanged s t

/-! ### Control flow -/

/-- 44_branch_jump.md R370 to R386: the sixteen short branches complete; PC moves by the signed offset exactly where the
condition of the table of R370 holds, and nothing else changes. -/
def Obligations.ShortBranches : Prop :=
  ∀ (off : Byte) (s : State), s.defragIssued = false →
    let branches (i : Instr) (taken : Bool) : Prop :=
      Completes (exec i s) { s with pc := if taken then BitVec.ofInt 16 (s.pc.toNat + off.toInt) else s.pc }
    branches (.bra off) true ∧
      branches (.brn off) false ∧
      branches (.bhi off) (decide (s.cc.c = false ∧ s.cc.z = false)) ∧
      branches (.bls off) (decide (s.cc.c = true ∨ s.cc.z = true)) ∧
      branches (.bcc off) (decide (s.cc.c = false)) ∧
      branches (.bcs off) (decide (s.cc.c = true)) ∧
      branches (.bne off) (decide (s.cc.z = false)) ∧
      branches (.beq off) (decide (s.cc.z = true)) ∧
      branches (.bvc off) (decide (s.cc.v = false)) ∧
      branches (.bvs off) (decide (s.cc.v = true)) ∧
      branches (.bpl off) (decide (s.cc.n = false)) ∧
      branches (.bmi off) (decide (s.cc.n = true)) ∧
      branches (.bge off) (decide (s.cc.n = s.cc.v)) ∧
      branches (.blt off) (decide (s.cc.n ≠ s.cc.v)) ∧
      branches (.bgt off) (decide (s.cc.z = false ∧ s.cc.n = s.cc.v)) ∧
      branches (.ble off) (decide (s.cc.z = true ∨ s.cc.n ≠ s.cc.v))

/-- 44_branch_jump.md R370, R387 to R402: the sixteen long branches, by the same table. -/
def Obligations.LongBranches : Prop :=
  ∀ (off : Word) (s : State), s.defragIssued = false →
    let branches (i : Instr) (taken : Bool) : Prop :=
      Completes (exec i s) { s with pc := if taken then BitVec.ofInt 16 (s.pc.toNat + off.toInt) else s.pc }
    branches (.lbra off) true ∧
      branches (.lbrn off) false ∧
      branches (.lbhi off) (decide (s.cc.c = false ∧ s.cc.z = false)) ∧
      branches (.lbls off) (decide (s.cc.c = true ∨ s.cc.z = true)) ∧
      branches (.lbcc off) (decide (s.cc.c = false)) ∧
      branches (.lbcs off) (decide (s.cc.c = true)) ∧
      branches (.lbne off) (decide (s.cc.z = false)) ∧
      branches (.lbeq off) (decide (s.cc.z = true)) ∧
      branches (.lbvc off) (decide (s.cc.v = false)) ∧
      branches (.lbvs off) (decide (s.cc.v = true)) ∧
      branches (.lbpl off) (decide (s.cc.n = false)) ∧
      branches (.lbmi off) (decide (s.cc.n = true)) ∧
      branches (.lbge off) (decide (s.cc.n = s.cc.v)) ∧
      branches (.lblt off) (decide (s.cc.n ≠ s.cc.v)) ∧
      branches (.lbgt off) (decide (s.cc.z = false ∧ s.cc.n = s.cc.v)) ∧
      branches (.lble off) (decide (s.cc.z = true ∨ s.cc.n ≠ s.cc.v))

/-- 44_branch_jump.md R370, 42_arithmetic.md R261, R263: after a compare of bytes or words, the conditions are the orders of
the two values, unsigned and signed. -/
def Obligations.CompareBranches : Prop :=
  let orders (f : CC) (a m : Nat) (x y : Int) : Prop :=
    (Cond.hi.holds f = true ↔ m < a) ∧ (Cond.ls.holds f = true ↔ a ≤ m) ∧
    (Cond.cc.holds f = true ↔ m ≤ a) ∧ (Cond.cs.holds f = true ↔ a < m) ∧
    (Cond.ne.holds f = true ↔ a ≠ m) ∧ (Cond.eq.holds f = true ↔ a = m) ∧
    (Cond.ge.holds f = true ↔ y ≤ x) ∧ (Cond.lt.holds f = true ↔ x < y) ∧
    (Cond.gt.holds f = true ↔ y < x) ∧ (Cond.le.holds f = true ↔ x ≤ y)
  (∀ (cc : CC) (h : Bool) (a m : Byte), orders (cc.sub8 h a m false) a.toNat m.toNat a.toInt m.toInt) ∧
    ∀ (cc : CC) (a m : Word), orders (cc.sub16 a m) a.toNat m.toNat a.toInt m.toInt

/-- 44_branch_jump.md R405, R407, R408: JMP goes to the effective address without reading there, NOP changes nothing, RTS
pulls PC from the S stack, from wherever S points. -/
def Obligations.JumpReturnNop : Prop :=
  (∀ (e : MemForm) (s : State), s.defragIssued = false →
    Completes (exec (.jmp e) s) { (MemForm.ea e s).2 with pc := (MemForm.ea e s).1 }) ∧
  (∀ s : State, s.defragIssued = false → Completes (exec .nop s) s) ∧
  (∀ s : State, s.defragIssued = false → ∃ t, exec .rts s = .next t ∧ t.sp = s.sp + 2) ∧
  ∀ (s : State) (hi lo : Byte), s.defragIssued = false → s.bytesAt s.sp [hi, lo] = true →
    Completes (exec .rts s) { s with pc := joinBytes hi lo, sp := s.sp + 2 }

/-- 44_branch_jump.md R403, R404, R406: the calls push the return address, low byte first, and go to the target; JSR has
computed its target before it pushes. -/
def Obligations.Calls : Prop :=
  let calls (i : Instr) (target : Addr) (s p : State) : Prop :=
    s.defragIssued = false → s.pushesClear p.sp [loByte s.pc, hiByte s.pc] = true →
      Completes (exec i s)
        { busWrite (busWrite p (p.sp - 1) (loByte s.pc)) (p.sp - 2) (hiByte s.pc) with pc := target, sp := p.sp - 2 }
  (∀ (off : Byte) (s : State), calls (.bsr off) (BitVec.ofInt 16 (s.pc.toNat + off.toInt)) s s) ∧
    (∀ (off : Word) (s : State), calls (.lbsr off) (BitVec.ofInt 16 (s.pc.toNat + off.toInt)) s s) ∧
    ∀ (e : MemForm) (s : State), calls (.jsr e) (MemForm.ea e s).1 s (MemForm.ea e s).2

/-! ### Stacks, software interrupts, waits -/

/-- 45_stack_system.md R420, R421, R423: PSHS and PSHU complete for every mask; the pointer falls by the bytes pushed, and
where it points into RAM they lie below its old place in the order of the rule, and no other byte changes. -/
def Obligations.PushRegisters : Prop :=
  ∀ (k : Stack) (mask : Byte) (s : State), s.defragIssued = false →
    let p := s.stackPtr k
    let bs := s.frame k (selected mask pushOrder)
    s.pushesClear p bs = true →
    ∃ t, exec (pushInstr k mask) s = .next t ∧ t.stackPtr k = p - BitVec.ofNat 16 bs.length ∧
      (s.ramBelow p bs.length = true → PushedBelow s t p bs)

/-- 45_stack_system.md R422, R424: PULS and PULU complete for every mask, from wherever the pointer points; the pointer rises
by the bytes pulled, each register of the mask takes its bytes, and every other keeps its value. -/
def Obligations.PullRegisters : Prop :=
  (∀ (k : Stack) (mask : Byte) (s : State), s.defragIssued = false →
    ∃ t, exec (pullInstr k mask) s = .next t ∧
      t.stackPtr k = s.stackPtr k + BitVec.ofNat 16 (frameBytes (selected mask pullOrder))) ∧
  ∀ (k : Stack) (mask : Byte) (s : State) (bs : List Byte), s.defragIssued = false →
    bs.length = frameBytes (selected mask pullOrder) → s.bytesAt (s.stackPtr k) bs = true →
    ∃ t, exec (pullInstr k mask) s = .next t ∧ ∀ i : StackItem,
      if mask.getLsbD i.bit then (t.itemBytes k i).reverse = (bs.drop (pullOffset mask i)).take i.bytes
      else t.itemBytes k i = s.itemBytes k i

/-- 45_stack_system.md R421 to R424: a push into RAM followed by a pull with the same mask leaves every register as it was,
CC and the stack pointers among them. -/
def Obligations.PushPullRestores : Prop :=
  ∀ (k : Stack) (mask : Byte) (s : State), s.defragIssued = false →
    s.ramBelow (s.stackPtr k) (frameBytes (selected mask pushOrder)) = true →
    ∃ t u, exec (pushInstr k mask) s = .next t ∧ exec (pullInstr k mask) t = .next u ∧
      ∀ q : Reg, u.regRead q = s.regRead q

/-- 45_stack_system.md R425 to R427, 60_exceptions.md R536: SWI, SWI2 and SWI3 push the entire frame with E set and load their
vector; SWI alone sets F and I. Where the frame goes to RAM its bytes lie there and the vector is read after it. -/
def Obligations.SoftwareInterrupts : Prop :=
  ∀ (v : Sys2Proof.Vector) (s : State), v ∈ [Sys2Proof.Vector.swi, .swi2, .swi3] → s.defragIssued = false →
    let bs := (s.setE true).frame .s pushOrder
    s.pushesClear s.sp bs = true →
    ∃ t, exec (softwareInterrupt v) s = .next t ∧ t.sp = s.sp - 12 ∧
      t.pc = (read16 (pushEntire s) v.addr).1 ∧
      t.cc = { s.cc with e := true, f := s.cc.f || decide (v = .swi), i := s.cc.i || decide (v = .swi) } ∧
      ∀ hi lo : Byte, s.ramBelow s.sp 12 = true → (pushEntire s).bytesAt v.addr [hi, lo] = true →
        t.pc = joinBytes hi lo ∧ PushedBelow s t s.sp bs

/-- 45_stack_system.md R428: RTI completes from wherever S points; it pulls three bytes where E of the pulled CC is clear and
twelve where it is set. -/
def Obligations.ReturnFromInterrupt : Prop :=
  (∀ s : State, s.defragIssued = false → ∃ t, exec .rti s = .next t) ∧
  (∀ (s : State) (c p1 p0 : Byte), s.defragIssued = false → c.getLsbD 7 = false →
    s.bytesAt s.sp [c, p1, p0] = true →
    Completes (exec .rti s) { s with cc := CC.ofByte c, pc := joinBytes p1 p0, sp := s.sp + 3 }) ∧
  ∀ (s : State) (c a b dp x1 x0 y1 y0 u1 u0 p1 p0 : Byte), s.defragIssued = false → c.getLsbD 7 = true →
    s.bytesAt s.sp [c, a, b, dp, x1, x0, y1, y0, u1, u0, p1, p0] = true →
    Completes (exec .rti s)
      { s with
        cc := CC.ofByte c
        a := a
        b := b
        dp := dp
        x := joinBytes x1 x0
        y := joinBytes y1 y0
        u := joinBytes u1 u0
        pc := joinBytes p1 p0
        sp := s.sp + 12 }

/-- 45_stack_system.md R429, R430: SYNC waits; CWAI combines its mask into CC, sets E, pushes the entire frame and waits. -/
def Obligations.WaitInstructions : Prop :=
  (∀ s : State, s.defragIssued = false → Completes (exec .sync s) { s with wait := .sync }) ∧
  ∀ (v : Byte) (s : State), s.defragIssued = false →
    let m := (s.andCC v).setE true
    let bs := m.frame .s pushOrder
    s.pushesClear s.sp bs = true →
    ∃ t, exec (.cwai v) s = .next t ∧ t.wait = .cwai ∧ t.sp = s.sp - 12 ∧ t.pc = s.pc ∧
      t.cc = { CC.ofByte (s.cc.toByte &&& v) with e := true } ∧
      (s.ramBelow s.sp 12 = true → PushedBelow s t s.sp bs)

/-- 60_exceptions.md R537, R538, R540: a waiting machine does nothing while all lines are high; with a line low that enters
no interrupt it leaves the wait and runs the next instruction in the same tick. -/
def Obligations.WaitingSteps : Prop :=
  (∀ s : State, s.Evaluates → s.wait ≠ .normal → s.anyLine = false → step s = .next { s with nmiHist := true }) ∧
  ∀ (s : State) (i : Instr) (bs : List Byte), s.Evaluates → s.wait ≠ .normal → s.anyLine = true → s.NoInterrupt →
    decode bs = .ok (i, []) → s.bytesAt s.pc bs = true →
    ∃ n, step s = exec i { s with
      nmiHist := s.nmiN
      wait := .normal
      pc := s.pc + BitVec.ofNat 16 bs.length
      busy := n }

/-- 60_exceptions.md R528 to R536, R539: the evaluation enters the interrupt of highest priority that counts: its frame is
pushed with E set (FIRQ: PC and CC, E clear), F and I are set and the vector loaded, before any fetch. After CWAI nothing is
pushed, unless `CWAI_ENTRY_RESTACKS`. -/
def Obligations.InterruptEntry : Prop :=
  (∀ (s : State) (k : Interrupt), s.Evaluates → s.accepts k = true →
    (s.wait ≠ .cwai ∨ s.cfg.cwaiEntryRestacks = true) →
    s.pushesClear s.sp (s.interruptFrame k) = true →
    ∃ t, step s = .next t ∧ t.sp = s.sp - BitVec.ofNat 16 (s.interruptFrame k).length ∧
      t.pc = (read16 (pushFrame k s) k.vector.addr).1 ∧
      t.cc = { s.cc with e := decide (k ≠ .firq), f := true, i := true } ∧ t.wait = .normal ∧ t.nmiHist = s.nmiN ∧
      (∀ q : Reg, q ≠ .s → q ≠ .pc → q ≠ .cc → t.regRead q = s.regRead q) ∧
      ∀ hi lo : Byte, s.ramBelow s.sp (s.interruptFrame k).length = true →
        (pushFrame k s).bytesAt k.vector.addr [hi, lo] = true →
        t.pc = joinBytes hi lo ∧ PushedBelow s t s.sp (s.interruptFrame k)) ∧
  ∀ (s : State) (k : Interrupt), s.Evaluates → s.accepts k = true → s.wait = .cwai → s.cfg.cwaiEntryRestacks = false →
    ∃ t, step s = .next t ∧ t.cc = { s.cc with f := true, i := true } ∧ t.pc = (read16 s k.vector.addr).1 ∧
      t.wait = .normal ∧ t.nmiHist = s.nmiN ∧ t.ram = s.ram ∧
      ∀ q : Reg, q ≠ .pc → q ≠ .cc → t.regRead q = s.regRead q

/-- 60_exceptions.md R539, R541, R542: an interrupt entered with S in RAM, and an RTI at its handler, resume the interrupted
program with every register as it was, but for E of CC. Where CWAI has pushed the frame, the entry pushes none: CWAI, an
interrupt taken out of its wait at whatever levels the lines then have, and an RTI leave every register as it was before CWAI,
with CC as CWAI made it. -/
def Obligations.InterruptRoundTrip : Prop :=
  (∀ (s : State) (k : Interrupt), s.Evaluates → (s.wait ≠ .cwai ∨ s.cfg.cwaiEntryRestacks = true) →
    s.accepts k = true → s.ramBelow s.sp (s.interruptFrame k).length = true →
    ∃ t u, step s = .next t ∧ exec .rti t = .next u ∧
      (∀ q : Reg, q ≠ .cc → u.regRead q = s.regRead q) ∧ u.cc = { s.cc with e := decide (k ≠ .firq) }) ∧
  ∀ (s : State) (v : Byte) (k : Interrupt) (nmi firq irq : Bool), s.Evaluates → s.cfg.cwaiEntryRestacks = false →
    s.ramBelow s.sp 12 = true →
    ∃ t, exec (.cwai v) s = .next t ∧
      (({ t with busy := 0 }.withLines nmi firq irq).accepts k = true →
        ∃ u w, step ({ t with busy := 0 }.withLines nmi firq irq) = .next u ∧ exec .rti u = .next w ∧
          (∀ q : Reg, q ≠ .cc → w.regRead q = s.regRead q) ∧
          w.cc = { CC.ofByte (s.cc.toByte &&& v) with e := true })

/-! ### The bus -/

/-- 20_memory.md R83, R96, R98, 10_state.md R61 to R68: what a byte write does, read back: RAM (and no other byte changes), a
window unmapped or mapped onto a writable node, the read and write registers other than COMMAND; and the writes that are
dropped. -/
def Obligations.WriteReadsBack : Prop :=
  ∀ (s : State) (a : Addr) (v : Byte),
    (s.inRam a = true → (busWrite s a v).peek a = some v ∧ ∀ b, b ≠ a → (busWrite s a v).peek b = s.peek b) ∧
    (∀ k o, s.locate a = some (.bankWin k, o) →
      (bankLocate s.mmu k o = .ramBacked → (busWrite s a v).peek a = some v) ∧
      (∀ n, bankLocate s.mmu k o = .node n →
        if s.mmu.payloadWritable n then (busWrite s a v).peek a = some v else busWrite s a v = s)) ∧
    (∀ o r j, s.locate a = some (.mmuReg, o) → mmuRegAt s.cfg o = some (r, j) →
      (r ∈ [MmuReg.bank1Select, .bank2Select, .arg1, .arg2, .rawIndex] → (busWrite s a v).peek a = some v) ∧
      (r = .metaData →
        if s.mmu.payloadWritable s.mmu.rawIndex then (busWrite s a v).peek a = some v else busWrite s a v = s) ∧
      (r ∈ [MmuReg.blocksFree, .blocksAllocated, .blocksFragged, .error, .metaRoot, .metaPrev, .metaNext] →
        busWrite s a v = s)) ∧
    (∀ o, s.locate a = some (.rom, o) → busWrite s a v = s) ∧
    (s.locate a = none → busWrite s a v = s ∧ busRead s a = (0xCC, s))

/-- 20_memory.md R94, R97: a window offset leads to the node at place `o / 32` of the chain of a valid handle, to a bank error
past the chain's end or for an invalid handle, and to the backing array where the window is unmapped. R95, R96: on a bank
error a read and a write set ERROR to BANK, clear COMMAND, and change nothing else; the byte read is free (log 6), and the
counter of free values alone moves with it. -/
def Obligations.BankTranslation : Prop :=
  (∀ (m : Mmu) (k : Window) (o : Nat), o < windowBytes →
    bankLocate m k o =
      if m.bankSel k = noNode then .ramBacked
      else if m.validHandle (m.bankSel k) = false then .bankError
      else
        match (m.chainOf (m.bankSel k))[o / 32]? with
        | some n => .node n
        | none => .bankError) ∧
  ∀ (s : State) (a : Addr) (v : Byte) (k : Window) (o : Nat),
    s.locate a = some (.bankWin k, o) → bankLocate s.mmu k o = .bankError →
    let failed : Mmu := { s.mmu with error := s.cfg.errors.bank, command := 0x00 }
    busWrite s a v = { s with mmu := failed } ∧ ∃ n, (busRead s a).2 = { s with mmu := failed, draws := n }

/-! ### MMU commands -/

/-- 10_state.md R64, 49_mmu_commands.md R460, R470, R491: a write of COMMAND dispatches; an unknown code sets INVALID and
changes nothing else; a command that succeeds leaves its code in `command` and NONE in `error`; one that fails leaves 0 and
its code. -/
def Obligations.CommandDispatch : Prop :=
  (∀ (s : State) (a : Addr) (v : Byte) (o j : Nat), s.locate a = some (.mmuReg, o) →
    mmuRegAt s.cfg o = some (.command, j) → (busWrite s a v).mmu = s.mmu.dispatch s.cfg v) ∧
  ∀ (cfg : Config) (m : Mmu) (v : Byte), cfg.wf = true →
    (commandOf cfg v = none → m.dispatch cfg v = { m with command := 0x00, error := cfg.errors.invalid }) ∧
    (commandOf cfg v = some .nop → m.dispatch cfg v = { m with command := v, error := 0x00 }) ∧
    ∀ k, commandOf cfg v = some k →
      let r := ({ m with command := v, error := 0x00 } : Mmu).run cfg.errors k
      (r.2 = none → m.dispatch cfg v = r.1 ∧ r.1.command = v ∧ r.1.error = 0x00) ∧
      ∀ code, r.2 = some code → m.dispatch cfg v = { r.1 with command := 0x00, error := code }

/-- 49_mmu_commands.md R489, 70_reset_and_hazards.md R582: RESET frees every node and gives every register its construction
value, whatever stood before; `command` reads the code, and `bank_ram` is not changed. -/
def Obligations.MmuReset : Prop :=
  ∀ (s : State) (v : Byte), s.cfg.wf = true → commandOf s.cfg v = some .reset →
    let t := mmuDispatch s v
    t.mmu = { pool := [], bankSel1 := 0xFFFF, bankSel2 := 0xFFFF, blocksFree := 52428, blocksAllocated := 0,
              blocksFragged := 0, arg1 := 0, arg2 := 0, command := v, error := 0, rawIndex := 0 } ∧
    (∀ i, t.mmu.node i = ⟨0x00, [], 0xFFFF, 0xFFFF, 0xFFFF⟩) ∧ t.bankRam1 = s.bankRam1 ∧ t.bankRam2 = s.bankRam2 ∧
    (∀ h, t.mmu.validHandle h = false) ∧ ∀ k o, bankLocate t.mmu k o = .ramBacked

/-- 10_state.md R49 (a) to (e), 49_mmu_commands.md R492: every command keeps the chain invariants. -/
def Obligations.CommandsKeepChains : Prop :=
  ∀ (cfg : Config) (m : Mmu) (v : Byte), m.ChainsOk → (m.dispatch cfg v).ChainsOk

/-- 10_state.md R49 (g), (h), 49_mmu_commands.md R492: on a pool that meets the chain invariants, every command keeps the
three counters exact and FRAGD where it belongs. -/
def Obligations.CommandsKeepCounts : Prop :=
  ∀ (cfg : Config) (m : Mmu) (v : Byte), Pool.wf m.pool = true → m.ChainsOk → m.CountsOk → (m.dispatch cfg v).CountsOk

/-- 49_mmu_commands.md R492, R460: a command that fails, ALLOC with a good count apart, changes no node, no counter, no bank
select and not ARG_2; ARG_1 only PG_ALLOC and ALLOC change, and RAW_INDEX none of the commands that are not composed (for
those see log 18). -/
def Obligations.FailedCommands : Prop :=
  ∀ (e : ErrorCodes) (m : Mmu) (k : MmuCommand) (code : Byte), (m.run e k).2 = some code →
    (k = .alloc → m.arg1.toNat < 1 ∨ 256 < m.arg1.toNat) →
    let t := (m.run e k).1
    t.pool = m.pool ∧ t.blocksFree = m.blocksFree ∧ t.blocksAllocated = m.blocksAllocated ∧
      t.blocksFragged = m.blocksFragged ∧ t.bankSel1 = m.bankSel1 ∧ t.bankSel2 = m.bankSel2 ∧ t.arg2 = m.arg2 ∧
      (k ≠ .pgAlloc → k ≠ .alloc → t.arg1 = m.arg1) ∧ (k = .pgAlloc ∨ k = .alloc → t.arg1 = noNode) ∧
      (k ∉ [MmuCommand.pushBack, .pushFront, .popBack, .popFront] → t.rawIndex = m.rawIndex)

/-- 49_mmu_commands.md R492: no command but RESET touches a bank select, and none changes the payload of a node that was
allocated and stays allocated. -/
def Obligations.CommandFrame : Prop :=
  ∀ (e : ErrorCodes) (m : Mmu) (k : MmuCommand), k ≠ .reset →
    let t := (m.run e k).1
    t.bankSel1 = m.bankSel1 ∧ t.bankSel2 = m.bankSel2 ∧
      ∀ i : Word, (m.node i).allocated = true → (t.node i).allocated = true → (t.node i).data = (m.node i).data

/-- 49_mmu_commands.md R469, R475 to R478: the cursor commands. With a cursor that is no allocated node each fails with NODE
and changes nothing; LOAD_LAST ends on a node without successor in the cursor's chain. -/
def Obligations.CursorCommands : Prop :=
  ∀ (e : ErrorCodes) (m : Mmu),
    (m.cursor = none →
      ∀ k ∈ [MmuCommand.loadRoot, .loadNext, .loadPrev, .loadLast, .delNode, .insBefore, .insAfter, .pushBack, .pushFront,
          .popBack, .popFront, .lockNode, .unlockNode],
        m.run e k = (m, some e.node)) ∧
    ∀ c, m.cursor = some c →
      m.run e .loadRoot = ({ m with rawIndex := (m.node c).root }, none) ∧
      (m.run e .loadNext
        = if (m.node c).next = noNode then (m, some e.node) else ({ m with rawIndex := (m.node c).next }, none)) ∧
      (m.run e .loadPrev
        = if (m.node c).prev = noNode then (m, some e.node) else ({ m with rawIndex := (m.node c).prev }, none)) ∧
      (m.ChainsOk → ∃ l : Word, m.run e .loadLast = ({ m with rawIndex := l }, none) ∧
        (m.node l).allocated = true ∧ (m.node l).next = noNode ∧ (m.node l).root = (m.node c).root)

/-- 49_mmu_commands.md R462, R463, R467, R473: where that many nodes are free, ALLOC of 1 to 256 nodes builds a chain of that
length, of nodes that were free, in ascending order, with the status of the template; the handle is valid and in ARG_1 and
RAW_INDEX, the counters move by the count, and every node allocated before is as it was. -/
def Obligations.AllocBuildsChain : Prop :=
  ∀ (e : ErrorCodes) (m : Mmu), Pool.wf m.pool = true → 1 ≤ m.arg1.toNat → m.arg1.toNat ≤ 256 →
    m.allocatedCount + m.arg1.toNat ≤ nodes →
    let r := m.run e .alloc
    let t := r.1
    let chain := t.chainOf t.arg1
    r.2 = none ∧ t.validHandle t.arg1 = true ∧ t.rawIndex = t.arg1 ∧ chain.length = m.arg1.toNat ∧
      chain.Pairwise (fun i j => i.toNat < j.toNat) ∧
      (∀ i ∈ chain, (m.node i).allocated = false ∧ (t.node i).root = t.arg1 ∧
        (t.node i).status &&& ~~~0x08 = 0x01 ||| (loByte m.arg2 &&& 0x16)) ∧
      (∀ i : Word, (m.node i).allocated = true → t.node i = m.node i) ∧
      t.blocksFree = m.blocksFree - m.arg1 ∧ t.blocksAllocated = m.blocksAllocated + m.arg1

/-- 49_mmu_commands.md R464, R468, R472, R474: FREE and PG_FREE of a mapped or invalid handle fail and change nothing; else
every node of the chain becomes a free node, the others stay as they are, the counters move by the chain's length, and ARG_1
is the sentinel. -/
def Obligations.FreeReleasesChain : Prop :=
  ∀ (e : ErrorCodes) (m : Mmu),
    (m.validHandle m.arg1 = false → m.run e .free = (m, some e.handle) ∧ m.run e .pgFree = (m, some e.pgFree)) ∧
    (m.validHandle m.arg1 = true → m.mapped m.arg1 = true →
      m.run e .free = (m, some e.free) ∧ m.run e .pgFree = (m, some e.pgFree)) ∧
    (m.validHandle m.arg1 = true → (m.node m.arg1).status.getLsbD 1 = false → m.run e .pgFree = (m, some e.pgFree)) ∧
    (Pool.wf m.pool = true → m.validHandle m.arg1 = true → m.mapped m.arg1 = false →
      let c := m.chainOf m.arg1
      let released (t : Mmu) : Prop :=
        (∀ i ∈ c, t.node i = Node.free) ∧ (∀ i, i ∉ c → t.node i = m.node i) ∧
          t.blocksFree = m.blocksFree + BitVec.ofNat 16 c.length ∧
          t.blocksAllocated = m.blocksAllocated - BitVec.ofNat 16 c.length ∧
          t.arg1 = noNode ∧ t.rawIndex = m.rawIndex
      ((m.run e .free).2 = none ∧ released (m.run e .free).1) ∧
        ((m.node m.arg1).status.getLsbD 1 = true → (m.run e .pgFree).2 = none ∧ released (m.run e .pgFree).1))

/-- 49_mmu_commands.md R486, R487, 20_memory.md R98: LOCK_NODE sets bit 4 of the cursor's status and UNLOCK_NODE clears it,
and nothing else changes; payload writes to a locked node, and to every node of a locked head's chain, are closed. -/
def Obligations.LockNode : Prop :=
  ∀ (e : ErrorCodes) (m : Mmu) (c : Word), m.cursor = some c →
    let l := (m.run e .lockNode).1
    let u := (m.run e .unlockNode).1
    (m.run e .lockNode).2 = none ∧ (m.run e .unlockNode).2 = none ∧
      l.node c = { m.node c with status := (m.node c).status ||| 0x10 } ∧
      u.node c = { m.node c with status := (m.node c).status &&& 0xEF } ∧
      (∀ i, i ≠ c → l.node i = m.node i ∧ u.node i = m.node i) ∧
      { l with pool := m.pool } = m ∧ { u with pool := m.pool } = m ∧
      l.payloadWritable c = false ∧ ∀ i, (m.node i).root = c → l.payloadWritable i = false

end
end

