-- ==== Sys2Proof/Laws/Sparse.lean ====
section
/-! SUPPORT. The laws of sparse lists and memories: read after write, and that every write keeps the canonical form. -/

namespace Sys2Proof.Machine

variable {α : Type}

/-! ### Read after write, on every list -/

theorem sparseGet_insert_same (d : α) (m : List (Nat × α)) (k : Nat) (v : α) :
    sparseGet d (sparseInsert m k v) k = v := by
  induction m with
  | nil => simp [sparseInsert, sparseGet]
  | cons p m ih =>
    obtain ⟨j, w⟩ := p
    simp only [sparseInsert]
    split
    · simp [sparseGet]
    · split
      · simp [sparseGet]
      · rename_i h
        simp [sparseGet, Ne.symm h, ih]

theorem sparseGet_insert_other (d : α) (m : List (Nat × α)) {k j : Nat} (v : α) (h : j ≠ k) :
    sparseGet d (sparseInsert m k v) j = sparseGet d m j := by
  induction m with
  | nil => simp [sparseInsert, sparseGet, h.symm]
  | cons p m ih =>
    obtain ⟨i, w⟩ := p
    simp only [sparseInsert]
    split
    · simp [sparseGet, h.symm]
    · split
      · subst_vars
        simp [sparseGet, h.symm]
      · simp [sparseGet, ih]

theorem sparseGet_filter_same (d : α) (m : List (Nat × α)) (k : Nat) :
    sparseGet d (m.filter fun p => p.1 ≠ k) k = d := by
  induction m with
  | nil => rfl
  | cons p m ih =>
    obtain ⟨i, w⟩ := p
    by_cases h : i = k
    · simpa [List.filter, h] using ih
    · simpa [List.filter, h, sparseGet] using ih

theorem sparseGet_filter_other (d : α) (m : List (Nat × α)) {k j : Nat} (h : j ≠ k) :
    sparseGet d (m.filter fun p => p.1 ≠ k) j = sparseGet d m j := by
  induction m with
  | nil => rfl
  | cons p m ih =>
    obtain ⟨i, w⟩ := p
    by_cases hi : i = k
    · have : ¬ i = j := fun e => h (e.symm.trans hi)
      simpa [List.filter, hi, sparseGet, h.symm] using ih
    · by_cases hj : i = j
      · subst hj
        simp [List.filter, h, sparseGet]
      · simpa [List.filter, hi, sparseGet, hj] using ih

/-- A read after a write to the same key gives the value written. -/
@[simp] theorem sparseGet_put_same [DecidableEq α] (d : α) (m : List (Nat × α)) (k : Nat) (v : α) :
    sparseGet d (sparsePut d m k v) k = v := by
  unfold sparsePut
  split
  · rename_i h
    rw [h]
    exact sparseGet_filter_same d m k
  · exact sparseGet_insert_same d m k v

/-- A write leaves every other key alone. -/
theorem sparseGet_put_other [DecidableEq α] (d : α) (m : List (Nat × α)) {k j : Nat} (v : α) (h : j ≠ k) :
    sparseGet d (sparsePut d m k v) j = sparseGet d m j := by
  unfold sparsePut
  split
  · exact sparseGet_filter_other d m h
  · exact sparseGet_insert_other d m v h

/-- Both at once. -/
theorem sparseGet_put [DecidableEq α] (d : α) (m : List (Nat × α)) (k j : Nat) (v : α) :
    sparseGet d (sparsePut d m k v) j = if j = k then v else sparseGet d m j := by
  split
  · subst_vars
    simp
  · rename_i h
    exact sparseGet_put_other d m v h

/-! ### The canonical form -/

theorem sparseWf_cons [DecidableEq α] (d : α) (bound j : Nat) (w : α) (m : List (Nat × α)) :
    sparseWf d bound ((j, w) :: m) = true ↔
      j < bound ∧ w ≠ d ∧ (∀ p ∈ m, j < p.1) ∧ sparseWf d bound m = true := by
  simp [sparseWf, and_assoc]

theorem mem_sparseInsert (m : List (Nat × α)) (k : Nat) (v : α) {p : Nat × α} (h : p ∈ sparseInsert m k v) :
    p = (k, v) ∨ p ∈ m := by
  induction m with
  | nil => simpa [sparseInsert] using h
  | cons q m ih =>
    obtain ⟨j, w⟩ := q
    simp only [sparseInsert] at h
    split at h
    · simpa using h
    · split at h
      · simp only [List.mem_cons] at h ⊢
        tauto
      · simp only [List.mem_cons] at h ⊢
        rcases h with h | h
        · exact .inr (.inl h)
        · rcases ih h with h | h
          · exact .inl h
          · exact .inr (.inr h)

theorem sparseWf_insert [DecidableEq α] {d : α} {bound : Nat} {m : List (Nat × α)} {k : Nat} {v : α}
    (hm : sparseWf d bound m = true) (hk : k < bound) (hv : v ≠ d) : sparseWf d bound (sparseInsert m k v) = true := by
  induction m with
  | nil => simp [sparseInsert, sparseWf, hk, hv]
  | cons p m ih =>
    obtain ⟨j, w⟩ := p
    have hc := (sparseWf_cons d bound j w m).mp hm
    obtain ⟨hj, hw, hlt, htl⟩ := hc
    simp only [sparseInsert]
    split
    · rename_i hkj
      refine (sparseWf_cons _ _ _ _ _).mpr ⟨hk, hv, ?_, hm⟩
      intro p hp
      simp only [List.mem_cons] at hp
      rcases hp with rfl | hp
      · exact hkj
      · exact hkj.trans (hlt p hp)
    · split
      · subst_vars
        exact (sparseWf_cons _ _ _ _ _).mpr ⟨hk, hv, hlt, htl⟩
      · refine (sparseWf_cons _ _ _ _ _).mpr ⟨hj, hw, ?_, ih htl⟩
        intro p hp
        rcases mem_sparseInsert m k v hp with rfl | hp
        · show j < k
          omega
        · exact hlt p hp

theorem sparseWf_filter [DecidableEq α] {d : α} {bound : Nat} {m : List (Nat × α)} (q : Nat × α → Bool)
    (hm : sparseWf d bound m = true) : sparseWf d bound (m.filter q) = true := by
  induction m with
  | nil => rfl
  | cons p m ih =>
    obtain ⟨j, w⟩ := p
    obtain ⟨hj, hw, hlt, htl⟩ := (sparseWf_cons d bound j w m).mp hm
    simp only [List.filter]
    split
    · exact (sparseWf_cons _ _ _ _ _).mpr ⟨hj, hw, fun p hp => hlt p (List.mem_filter.mp hp).1, ih htl⟩
    · exact ih htl

/-- Every write keeps the canonical form. -/
theorem sparseWf_put [DecidableEq α] {d : α} {bound : Nat} {m : List (Nat × α)} {k : Nat} (v : α)
    (hm : sparseWf d bound m = true) (hk : k < bound) : sparseWf d bound (sparsePut d m k v) = true := by
  unfold sparsePut
  split
  · exact sparseWf_filter _ hm
  · rename_i hv
    exact sparseWf_insert hm hk hv

/-- What a write leaves listed. -/
theorem mem_sparsePut [DecidableEq α] {d : α} {m : List (Nat × α)} {k : Nat} {v : α} {p : Nat × α}
    (h : p ∈ sparsePut d m k v) : p = (k, v) ∨ p ∈ m := by
  unfold sparsePut at h
  split at h
  · exact .inr (List.mem_filter.mp h).1
  · exact mem_sparseInsert m k v h

/-- What is read is the default or listed. -/
theorem sparseGet_mem (d : α) (m : List (Nat × α)) (k : Nat) : sparseGet d m k = d ∨ (k, sparseGet d m k) ∈ m := by
  induction m with
  | nil => exact .inl rfl
  | cons p m ih =>
    obtain ⟨j, w⟩ := p
    simp only [sparseGet]
    split
    · subst_vars
      exact .inr (by simp)
    · rcases ih with h | h
      · exact .inl h
      · exact .inr (by simp [h])

/-! ### Memories -/

@[simp] theorem Memory.read_write_same (m : Memory) (a : Nat) (v : Byte) : Memory.read (Memory.write m a v) a = v :=
  sparseGet_put_same _ _ _ _

theorem Memory.read_write_other (m : Memory) {a b : Nat} (v : Byte) (h : b ≠ a) :
    Memory.read (Memory.write m a v) b = Memory.read m b :=
  sparseGet_put_other _ _ v h

/-- A write keeps the canonical form of a memory. -/
theorem Memory.wf_write {bound a : Nat} {m : Memory} (v : Byte) (hm : Memory.wf bound m = true) (ha : a < bound) :
    Memory.wf bound (Memory.write m a v) = true :=
  sparseWf_put v hm ha

end Sys2Proof.Machine
end

