-- ==== Sys2Proof/Laws/Mmu.lean ====
section
/-! SUPPORT. The laws of the MMU: reading nodes after writing them, and that every helper and command keeps the pool canonical
and the two counters complementary. -/

namespace Sys2Proof.Machine

/-! ### Nodes -/

theorem Mmu.node_setNode (m : Mmu) (i j : Word) (n : Node) :
    (m.setNode i n).node j = if j = i ∧ i.toNat < nodes then n else m.node j := by
  unfold Mmu.setNode Mmu.node
  by_cases h : i.toNat < nodes
  · rw [if_pos h]
    show sparseGet Node.free (sparsePut Node.free m.pool i.toNat n) j.toNat = _
    rw [sparseGet_put]
    by_cases e : j = i
    · simp [e, h]
    · have : j.toNat ≠ i.toNat := fun he => e (BitVec.eq_of_toNat_eq he)
      simp [e, this]
  · simp [h]

theorem Mmu.node_setNode_same (m : Mmu) {i : Word} (n : Node) (h : i.toNat < nodes) : (m.setNode i n).node i = n := by
  simp [Mmu.node_setNode, h]

theorem Mmu.node_setNode_other (m : Mmu) {i j : Word} (n : Node) (h : j ≠ i) : (m.setNode i n).node j = m.node j := by
  simp [Mmu.node_setNode, h]

/-- Writing a node touches the pool alone. -/
theorem Mmu.setNode_eq (m : Mmu) (i : Word) (n : Node) : m.setNode i n = { m with pool := (m.setNode i n).pool } := by
  unfold Mmu.setNode
  split <;> rfl

@[simp] theorem Mmu.setNode_bankSel1 (m : Mmu) (i : Word) (n : Node) : (m.setNode i n).bankSel1 = m.bankSel1 := by
  rw [Mmu.setNode_eq]
@[simp] theorem Mmu.setNode_bankSel2 (m : Mmu) (i : Word) (n : Node) : (m.setNode i n).bankSel2 = m.bankSel2 := by
  rw [Mmu.setNode_eq]
@[simp] theorem Mmu.setNode_blocksFree (m : Mmu) (i : Word) (n : Node) : (m.setNode i n).blocksFree = m.blocksFree := by
  rw [Mmu.setNode_eq]
@[simp] theorem Mmu.setNode_blocksAllocated (m : Mmu) (i : Word) (n : Node) :
    (m.setNode i n).blocksAllocated = m.blocksAllocated := by
  rw [Mmu.setNode_eq]
@[simp] theorem Mmu.setNode_blocksFragged (m : Mmu) (i : Word) (n : Node) :
    (m.setNode i n).blocksFragged = m.blocksFragged := by
  rw [Mmu.setNode_eq]
@[simp] theorem Mmu.setNode_arg1 (m : Mmu) (i : Word) (n : Node) : (m.setNode i n).arg1 = m.arg1 := by
  rw [Mmu.setNode_eq]
@[simp] theorem Mmu.setNode_arg2 (m : Mmu) (i : Word) (n : Node) : (m.setNode i n).arg2 = m.arg2 := by
  rw [Mmu.setNode_eq]
@[simp] theorem Mmu.setNode_command (m : Mmu) (i : Word) (n : Node) : (m.setNode i n).command = m.command := by
  rw [Mmu.setNode_eq]
@[simp] theorem Mmu.setNode_error (m : Mmu) (i : Word) (n : Node) : (m.setNode i n).error = m.error := by
  rw [Mmu.setNode_eq]
@[simp] theorem Mmu.setNode_rawIndex (m : Mmu) (i : Word) (n : Node) : (m.setNode i n).rawIndex = m.rawIndex := by
  rw [Mmu.setNode_eq]

/-! ### What every command keeps -/

/-- The pool is canonical and the two counters sum to `NODES` (10_state.md R46, R49 (g)). -/
structure Mmu.Kept (m : Mmu) : Prop where
  pool : Pool.wf m.pool = true
  count : m.blocksFree + m.blocksAllocated = BitVec.ofNat 16 nodes

theorem Mmu.kept_construct : Mmu.construct.Kept := ⟨by decide, by decide⟩

theorem Node.wf_iff (n : Node) : n.wf = true ↔ Memory.wf nodeBytes n.data = true ∧ n.status &&& 0xE0 = 0 := by
  simp [Node.wf]

theorem Pool.wf_iff (p : Pool) :
    Pool.wf p = true ↔ sparseWf Node.free nodes p = true ∧ ∀ e ∈ p, e.2.wf = true := by
  simp [Pool.wf]

theorem Mmu.Kept.node_wf {m : Mmu} (h : m.Kept) (i : Word) : (m.node i).wf = true := by
  rcases sparseGet_mem Node.free m.pool i.toNat with e | e
  · rw [Mmu.node, e]
    decide
  · exact ((Pool.wf_iff _).mp h.pool).2 _ e

theorem Mmu.Kept.setNode {m : Mmu} (h : m.Kept) (i : Word) {n : Node} (hn : n.wf = true) : (m.setNode i n).Kept := by
  refine ⟨?_, by simpa using h.count⟩
  unfold Mmu.setNode
  split
  · rename_i hi
    obtain ⟨hs, hw⟩ := (Pool.wf_iff _).mp h.pool
    refine (Pool.wf_iff _).mpr ⟨sparseWf_put _ hs hi, ?_⟩
    intro e he
    rcases mem_sparsePut he with rfl | he
    · exact hn
    · exact hw _ he
  · exact h.pool

theorem Mmu.Kept.setRoot {m : Mmu} (h : m.Kept) (i v : Word) : (m.setRoot i v).Kept := by
  have := h.node_wf i
  exact h.setNode i (by simpa [Node.wf] using this)

theorem Mmu.Kept.setPrev {m : Mmu} (h : m.Kept) (i v : Word) : (m.setPrev i v).Kept := by
  have := h.node_wf i
  exact h.setNode i (by simpa [Node.wf] using this)

theorem Mmu.Kept.setNext {m : Mmu} (h : m.Kept) (i v : Word) : (m.setNext i v).Kept := by
  have := h.node_wf i
  exact h.setNode i (by simpa [Node.wf] using this)

/-- A change of a node's links alone. -/
theorem Mmu.Kept.setLinks {m : Mmu} (h : m.Kept) (i r p n : Word) :
    (m.setNode i { m.node i with root := r, prev := p, next := n }).Kept := by
  have := h.node_wf i
  exact h.setNode i (by simpa [Node.wf] using this)

theorem Mmu.Kept.setStatus {m : Mmu} (h : m.Kept) (i : Word) {v : Byte} (hv : v &&& 0xE0 = 0) : (m.setStatus i v).Kept := by
  have := h.node_wf i
  refine h.setNode i ?_
  rw [Node.wf_iff] at this ⊢
  exact ⟨this.1, hv⟩

theorem Mmu.Kept.setData {m : Mmu} (h : m.Kept) (i : Word) {j : Nat} (hj : j < nodeBytes) (v : Byte) :
    (m.setData i j v).Kept := by
  have := h.node_wf i
  refine h.setNode i ?_
  rw [Node.wf_iff] at this ⊢
  exact ⟨Memory.wf_write v this.1 hj, this.2⟩

/-- A change of the other registers alone. -/
theorem Mmu.Kept.of_eq {m m' : Mmu} (h : m.Kept) (hp : m'.pool = m.pool) (hf : m'.blocksFree = m.blocksFree)
    (ha : m'.blocksAllocated = m.blocksAllocated) : m'.Kept :=
  ⟨hp ▸ h.pool, by rw [hf, ha]; exact h.count⟩

/-! ### Helper functions -/

theorem templateStatus_high (t : Byte) : templateStatus t &&& 0xE0 = 0 := by
  revert t
  decide

theorem withFragd_high {st : Byte} (f : Bool) (h : st &&& 0xE0 = 0) : withFragd st f &&& 0xE0 = 0 := by
  revert st
  cases f <;> decide

theorem locked_high {st : Byte} (h : st &&& 0xE0 = 0) : (st ||| statusLocked) &&& 0xE0 = 0 := by
  revert st
  decide

theorem unlocked_high {st : Byte} (h : st &&& 0xE0 = 0) : (st &&& ~~~statusLocked) &&& 0xE0 = 0 := by
  revert st
  decide

theorem Mmu.Kept.status_high {m : Mmu} (h : m.Kept) (i : Word) : (m.node i).status &&& 0xE0 = 0 :=
  ((Node.wf_iff _).mp (h.node_wf i)).2

theorem Mmu.Kept.take {m : Mmu} (h : m.Kept) (f : Word) (t : Byte) : (m.take f t).Kept := by
  have h' := h.setStatus f (templateStatus_high t)
  refine ⟨h'.pool, ?_⟩
  have := h'.count
  show (m.setStatus f (templateStatus t)).blocksFree - 1 + ((m.setStatus f (templateStatus t)).blocksAllocated + 1) = _
  rw [← this]
  ring

theorem Mmu.Kept.release {m : Mmu} (h : m.Kept) (n : Word) : (m.release n).Kept := by
  have h' := h.setNode n (n := Node.free) (by decide)
  refine ⟨h'.pool, ?_⟩
  have := h'.count
  show (m.setNode n Node.free).blocksFree + 1 + ((m.setNode n Node.free).blocksAllocated - 1) = _
  rw [← this]
  ring

theorem Mmu.Kept.addFragged {m : Mmu} (h : m.Kept) (v : Word) : (m.addFragged v).Kept := h.of_eq rfl rfl rfl

theorem Mmu.Kept.refrag {m : Mmu} (h : m.Kept) (i : Word) : (m.refrag i).Kept := by
  unfold Mmu.refrag
  split
  · exact h
  · exact h.setStatus i (withFragd_high _ (h.status_high i))

theorem Mmu.Kept.setRoots {m : Mmu} (h : m.Kept) (xs : List Word) (r : Word) : (m.setRoots xs r).Kept := by
  unfold Mmu.setRoots
  induction xs generalizing m with
  | nil => exact h
  | cons x xs ih => exact ih (h.setRoot x r)

theorem Mmu.Kept.releaseAll {m : Mmu} (h : m.Kept) (xs : List Word) : (xs.foldl Mmu.release m).Kept := by
  induction xs generalizing m with
  | nil => exact h
  | cons x xs ih => exact ih (h.release x)

theorem Mmu.Kept.freeChain {m : Mmu} (h : m.Kept) (a : Word) : (m.freeChain a).Kept :=
  (h.addFragged (0 - chainDisc (m.chainOf a))).releaseAll (m.chainOf a)

theorem Mmu.Kept.linkAfter {m : Mmu} (h : m.Kept) (last f : Word) : (m.linkAfter last f).Kept := by
  unfold Mmu.linkAfter
  split
  · exact h
  · dsimp only
    have h1 := h.setNext last f
    split
    · have h2 := h1.setStatus last (withFragd_high true (h1.status_high last))
      exact (h2.setStatus f (withFragd_high true (h2.status_high f))).addFragged 1
    · exact h1

theorem Mmu.Kept.buildChainFrom {t : Byte} (k : Nat) {rootn last : Word} {m : Mmu} (h : m.Kept) :
    (buildChainFrom t k rootn last m).2.Kept := by
  induction k generalizing rootn last m with
  | zero => exact h
  | succ k ih =>
    unfold Machine.buildChainFrom
    split
    · exact h
    · exact ih (((h.take _ t).setLinks _ _ _ _).linkAfter _ _)

theorem Mmu.Kept.buildChain {m : Mmu} (h : m.Kept) (count : Nat) (t : Byte) : (m.buildChain count t).2.Kept :=
  h.buildChainFrom count

theorem Mmu.Kept.unlink {m : Mmu} (h : m.Kept) (c p n : Word) : (m.unlink c p n).Kept := by
  have step (b : Prop) [Decidable b] {m x : Mmu} (hm : m.Kept) (hx : x.Kept) : (if b then m else x).Kept := by
    split
    · exact hm
    · exact hx
  unfold Mmu.unlink
  refine Mmu.Kept.of_eq (m := Mmu.refrag (Mmu.refrag _ p) n) (Mmu.Kept.refrag (Mmu.Kept.refrag ?_ p) n) rfl rfl rfl
  have h := step (p = noNode) h (h.addFragged (0 - disc p c))
  have h := step (n = noNode) h (h.addFragged (0 - disc c n))
  have h := step (p = noNode ∨ n = noNode) h (h.addFragged (disc p n))
  have h := step (p = noNode) h (h.setNext p n)
  have h := step (n = noNode) h (h.setPrev n p)
  have h := h.release c
  refine step (p = noNode) ?_ h
  exact (step (n = noNode) h (h.setRoots _ n)).of_eq rfl rfl rfl

theorem Mmu.Kept.spliceBefore {m : Mmu} (h : m.Kept) (f c p : Word) : (m.spliceBefore f c p).Kept := by
  unfold Mmu.spliceBefore
  refine Mmu.Kept.of_eq (m := Mmu.refrag (Mmu.refrag (Mmu.refrag _ p) f) c)
    ((Mmu.Kept.refrag (Mmu.Kept.refrag (Mmu.Kept.addFragged ?_ (disc f c)) p) f).refrag c) rfl rfl rfl
  have h := ((h.take f (loByte m.arg2)).setLinks f ((m.take f (loByte m.arg2)).node f).root p c).setPrev c f
  split
  · exact (h.setRoots _ f).of_eq rfl rfl rfl
  · exact ((h.setNext p f).setRoot f _).addFragged _

theorem Mmu.Kept.spliceAfter {m : Mmu} (h : m.Kept) (f c n : Word) : (m.spliceAfter f c n).Kept := by
  unfold Mmu.spliceAfter
  refine Mmu.Kept.of_eq (m := Mmu.refrag (Mmu.refrag (Mmu.refrag _ c) f) n)
    ((Mmu.Kept.refrag (Mmu.Kept.refrag (Mmu.Kept.addFragged ?_ (disc c f)) c) f).refrag n) rfl rfl rfl
  have h := ((h.take f (loByte m.arg2)).setLinks f ((m.take f (loByte m.arg2)).node c).root c n).setNext c f
  split
  · exact h
  · exact (h.setPrev n f).addFragged _

/-! ### Commands -/

theorem Mmu.Kept.onCursor {e : ErrorCodes} {m : Mmu} (h : m.Kept) {f : Word → CommandResult}
    (hf : ∀ c, (f c).1.Kept) : (m.onCursor e f).1.Kept := by
  unfold Mmu.onCursor
  split
  · exact h
  · exact hf _

theorem Mmu.Kept.loadRoot {e : ErrorCodes} {m : Mmu} (h : m.Kept) : (m.loadRoot e).1.Kept :=
  h.onCursor fun _ => h.of_eq rfl rfl rfl

theorem Mmu.Kept.loadLast {e : ErrorCodes} {m : Mmu} (h : m.Kept) : (m.loadLast e).1.Kept :=
  h.onCursor fun _ => h.of_eq rfl rfl rfl

theorem Mmu.Kept.delNode {e : ErrorCodes} {m : Mmu} (h : m.Kept) : (m.delNode e).1.Kept :=
  h.onCursor fun c => by
    split
    · exact h
    · exact h.unlink c _ _

theorem Mmu.Kept.insBefore {e : ErrorCodes} {m : Mmu} (h : m.Kept) : (m.insBefore e).1.Kept :=
  h.onCursor fun c => by
    split
    · exact h
    · split
      · exact h
      · exact h.spliceBefore _ c _

theorem Mmu.Kept.insAfter {e : ErrorCodes} {m : Mmu} (h : m.Kept) : (m.insAfter e).1.Kept :=
  h.onCursor fun c => by
    split
    · exact h
    · exact h.spliceAfter _ c _

theorem Mmu.Kept.compose {first second : Mmu → CommandResult} {m : Mmu} (h1 : ∀ m : Mmu, m.Kept → (first m).1.Kept)
    (h2 : ∀ m : Mmu, m.Kept → (second m).1.Kept) (h : m.Kept) : (m.compose first second).1.Kept := by
  have hf := h1 m h
  unfold Mmu.compose
  generalize first m = r at hf
  obtain ⟨m', o⟩ := r
  cases o with
  | some c => exact hf
  | none =>
    have hs := h2 m' hf
    dsimp only
    generalize second m' = r at hs
    obtain ⟨m'', o⟩ := r
    cases o with
    | none => exact hs
    | some c => exact hs.of_eq rfl rfl rfl

/-- Every command keeps the pool canonical and the counters complementary (49_mmu_commands.md R492). -/
theorem Mmu.Kept.run {e : ErrorCodes} {m : Mmu} (h : m.Kept) (k : MmuCommand) : (m.run e k).1.Kept := by
  cases k with
  | nop => exact h
  | defrag => exact h
  | loadRoot => exact h.loadRoot
  | loadLast => exact h.loadLast
  | delNode => exact h.delNode
  | insBefore => exact h.insBefore
  | insAfter => exact h.insAfter
  | pushBack => exact h.compose (fun _ h => h.loadLast) (fun _ h => h.insAfter)
  | pushFront => exact h.compose (fun _ h => h.loadRoot) (fun _ h => h.insBefore)
  | popBack => exact h.compose (fun _ h => h.loadLast) (fun _ h => h.delNode)
  | popFront => exact h.compose (fun _ h => h.loadRoot) (fun _ h => h.delNode)
  | lockNode => exact h.onCursor fun c => h.setStatus c (locked_high (h.status_high c))
  | unlockNode => exact h.onCursor fun c => h.setStatus c (unlocked_high (h.status_high c))
  | reset => exact Mmu.kept_construct.of_eq rfl rfl rfl
  | loadNext =>
    refine h.onCursor fun c => ?_
    split
    · exact h
    · exact h.of_eq rfl rfl rfl
  | loadPrev =>
    refine h.onCursor fun c => ?_
    split
    · exact h
    · exact h.of_eq rfl rfl rfl
  | size =>
    show (m.size e).1.Kept
    unfold Mmu.size
    split
    · exact h
    · exact h.of_eq rfl rfl rfl
  | free =>
    show (m.free e).1.Kept
    unfold Mmu.free
    split
    · exact h
    · split
      · exact h
      · exact (h.freeChain _).of_eq rfl rfl rfl
  | pgFree =>
    show (m.pgFree e).1.Kept
    unfold Mmu.pgFree
    split
    · exact h
    · exact (h.freeChain _).of_eq rfl rfl rfl
  | alloc =>
    show (m.alloc e).1.Kept
    unfold Mmu.alloc
    split
    · exact h.of_eq rfl rfl rfl
    · dsimp only
      split
      · exact (h.buildChain _ _).of_eq rfl rfl rfl
      · exact (h.buildChain _ _).of_eq rfl rfl rfl
  | pgAlloc =>
    show (m.pgAlloc e).1.Kept
    unfold Mmu.pgAlloc
    split
    · exact h.of_eq rfl rfl rfl
    · exact (h.buildChain _ _).of_eq rfl rfl rfl

theorem Mmu.Kept.settle {r : CommandResult} (h : r.1.Kept) : (settle r).Kept := by
  obtain ⟨m, o⟩ := r
  cases o with
  | none => exact h
  | some c => exact h.of_eq rfl rfl rfl

theorem Mmu.Kept.dispatch {cfg : Config} {m : Mmu} (h : m.Kept) (v : Byte) : (m.dispatch cfg v).Kept := by
  unfold Mmu.dispatch
  have h : Mmu.Kept { m with command := v, error := cfg.errors.none } := h.of_eq rfl rfl rfl
  dsimp only
  split
  · exact h.of_eq rfl rfl rfl
  · exact (h.run _).settle

end Sys2Proof.Machine
end

