-- ==== Sys2Proof/Laws/Decode.lean ====
section
/-! SUPPORT. The lemmas of the byte helpers and of the readers of operand bytes. -/

namespace Sys2Proof

theorem joinBytes_toNat (h l : Byte) : (joinBytes h l).toNat = h.toNat * 256 + l.toNat := by
  have := BitVec.toNat_append h l
  rw [Nat.shiftLeft_eq, ← Nat.shiftLeft_eq, ← Nat.shiftLeft_add_eq_or_of_lt l.isLt, Nat.shiftLeft_eq] at this
  exact this

theorem hiByte_toNat (w : Word) : (hiByte w).toNat = w.toNat / 256 := by
  have := w.isLt
  simp [hiByte, Nat.shiftRight_eq_div_pow]
  omega

theorem loByte_toNat (w : Word) : (loByte w).toNat = w.toNat % 256 := by
  simp [loByte]

/-- The high byte of a joined word (20_memory.md R85). -/
@[simp] theorem hiByte_joinBytes (h l : Byte) : hiByte (joinBytes h l) = h := by
  apply BitVec.eq_of_toNat_eq
  have := l.isLt
  rw [hiByte_toNat, joinBytes_toNat]
  omega

/-- The low byte of a joined word (20_memory.md R85). -/
@[simp] theorem loByte_joinBytes (h l : Byte) : loByte (joinBytes h l) = l := by
  apply BitVec.eq_of_toNat_eq
  have := l.isLt
  rw [loByte_toNat, joinBytes_toNat]
  omega

/-- A word is its two bytes (10_state.md R21, 20_memory.md R85). -/
@[simp] theorem joinBytes_hi_lo (w : Word) : joinBytes (hiByte w) (loByte w) = w := by
  apply BitVec.eq_of_toNat_eq
  rw [joinBytes_toNat, hiByte_toNat, loByte_toNat]
  omega

/-! ### Readers over a list of bytes -/

@[simp] theorem decodeList_byteReader (f : Byte → Instr) (v : Byte) (rest : List Byte) :
    (byteReader f).decodeList (v :: rest) = .ok (f v, rest) := rfl

@[simp] theorem decodeList_wordReader (f : Word → Instr) (h l : Byte) (rest : List Byte) :
    (wordReader f).decodeList (h :: l :: rest) = .ok (f (joinBytes h l), rest) := rfl

theorem decodeList_pairReader (f : BitVec 4 → BitVec 4 → Instr) (src dst : BitVec 4) (rest : List Byte) :
    (pairReader f).decodeList ((src ++ dst) :: rest) = .ok (f src dst, rest) := by
  have hs : BitVec.extractLsb' 4 4 (src ++ dst) = src := by revert src dst; decide
  have hd : BitVec.extractLsb' 0 4 (src ++ dst) = dst := by revert src dst; decide
  simp only [pairReader, Reader.decodeList]
  rw [hs, hd]

/-- The fields of a postbyte with bit 7 set (40_addressing_modes.md R179). -/
theorem subPostbyte_fields (r : IdxReg) (ind : Bool) (sub : BitVec 4) :
    (subPostbyte r ind sub).getLsbD 7 = true ∧
      IdxReg.ofCode ((subPostbyte r ind sub).extractLsb' 5 2) = r ∧
      (subPostbyte r ind sub).getLsbD 4 = ind ∧ (subPostbyte r ind sub).extractLsb' 0 4 = sub := by
  cases r <;> cases ind <;> revert sub <;> decide

/-- The fields of a 5-bit-offset postbyte (40_addressing_modes.md R180). -/
theorem off5Postbyte_fields (r : IdxReg) (n : BitVec 5) :
    ((0#1 ++ r.code : BitVec 3) ++ n : BitVec 8).getLsbD 7 = false ∧
      IdxReg.ofCode (((0#1 ++ r.code : BitVec 3) ++ n : BitVec 8).extractLsb' 5 2) = r ∧
      ((0#1 ++ r.code : BitVec 3) ++ n : BitVec 8).extractLsb' 0 5 = n := by
  cases r <;> revert n <;> decide

/-- The indexed reader reads back every indexed operand (40_addressing_modes.md R179 to R196). -/
theorem decodeList_indexedReader (f : Indexed → Instr) (m : Indexed) (rest : List Byte) :
    (indexedReader f).decodeList (m.bytes ++ rest) = .ok (f m, rest) := by
  cases m with
  | off5 r n =>
    obtain ⟨h7, hr, hn⟩ := off5Postbyte_fields r n
    simp only [indexedReader, Indexed.bytes, Indexed.postbyte, Indexed.ext, Reader.decodeList, List.cons_append,
      List.nil_append]
    rw [h7, hr, hn]
    rfl
  | postInc1 r =>
    obtain ⟨h7, hr, h4, hs⟩ := subPostbyte_fields r false 0x0
    simp only [indexedReader, Indexed.bytes, Indexed.postbyte, Indexed.ext, Reader.decodeList, List.cons_append,
      List.nil_append]
    rw [h7, hr, h4, hs]
    rfl
  | preDec1 r =>
    obtain ⟨h7, hr, h4, hs⟩ := subPostbyte_fields r false 0x2
    simp only [indexedReader, Indexed.bytes, Indexed.postbyte, Indexed.ext, Reader.decodeList, List.cons_append,
      List.nil_append]
    rw [h7, hr, h4, hs]
    rfl
  | reg r ind m =>
    obtain ⟨h7, hr, h4, hs⟩ := subPostbyte_fields r ind m.code
    simp only [indexedReader, Indexed.bytes, Indexed.postbyte, Indexed.ext, Reader.decodeList, List.cons_append]
    rw [h7, hr, h4, hs]
    cases m <;> simp [IdxMode.code, IdxMode.ext, Reader.decodeList]
  | pcr8 r ind n =>
    obtain ⟨h7, hr, h4, hs⟩ := subPostbyte_fields r ind 0xC
    simp only [indexedReader, Indexed.bytes, Indexed.postbyte, Indexed.ext, Reader.decodeList, List.cons_append,
      List.nil_append]
    rw [h7, hr, h4, hs]
    rfl
  | pcr16 r ind n =>
    obtain ⟨h7, hr, h4, hs⟩ := subPostbyte_fields r ind 0xD
    simp only [indexedReader, Indexed.bytes, Indexed.postbyte, Indexed.ext, Reader.decodeList, List.cons_append,
      List.nil_append]
    rw [h7, hr, h4, hs]
    simp
  | extInd a =>
    simp [indexedReader, Indexed.bytes, Indexed.postbyte, Indexed.ext, Reader.decodeList]

end Sys2Proof
end

