-- ==== Sys2Proof/Laws/State.lean ====
section
/-! SUPPORT. The small lemmas of the state's named updates: one per field, so that no later proof unfolds an update. -/

namespace Sys2Proof.Machine

/-! ### `setD` -/

@[simp] theorem State.setD_cfg (s : State) (w : Word) : (s.setD w).cfg = s.cfg := rfl
@[simp] theorem State.setD_a (s : State) (w : Word) : (s.setD w).a = hiByte w := rfl
@[simp] theorem State.setD_b (s : State) (w : Word) : (s.setD w).b = loByte w := rfl
@[simp] theorem State.setD_x (s : State) (w : Word) : (s.setD w).x = s.x := rfl
@[simp] theorem State.setD_y (s : State) (w : Word) : (s.setD w).y = s.y := rfl
@[simp] theorem State.setD_u (s : State) (w : Word) : (s.setD w).u = s.u := rfl
@[simp] theorem State.setD_sp (s : State) (w : Word) : (s.setD w).sp = s.sp := rfl
@[simp] theorem State.setD_pc (s : State) (w : Word) : (s.setD w).pc = s.pc := rfl
@[simp] theorem State.setD_dp (s : State) (w : Word) : (s.setD w).dp = s.dp := rfl
@[simp] theorem State.setD_cc (s : State) (w : Word) : (s.setD w).cc = s.cc := rfl
@[simp] theorem State.setD_nmiHist (s : State) (w : Word) : (s.setD w).nmiHist = s.nmiHist := rfl
@[simp] theorem State.setD_nmiDisabled (s : State) (w : Word) : (s.setD w).nmiDisabled = s.nmiDisabled := rfl
@[simp] theorem State.setD_wait (s : State) (w : Word) : (s.setD w).wait = s.wait := rfl
@[simp] theorem State.setD_busy (s : State) (w : Word) : (s.setD w).busy = s.busy := rfl
@[simp] theorem State.setD_fault (s : State) (w : Word) : (s.setD w).fault = s.fault := rfl
@[simp] theorem State.setD_nmiN (s : State) (w : Word) : (s.setD w).nmiN = s.nmiN := rfl
@[simp] theorem State.setD_firqN (s : State) (w : Word) : (s.setD w).firqN = s.firqN := rfl
@[simp] theorem State.setD_irqN (s : State) (w : Word) : (s.setD w).irqN = s.irqN := rfl
@[simp] theorem State.setD_mmu (s : State) (w : Word) : (s.setD w).mmu = s.mmu := rfl
@[simp] theorem State.setD_ram (s : State) (w : Word) : (s.setD w).ram = s.ram := rfl
@[simp] theorem State.setD_rom (s : State) (w : Word) : (s.setD w).rom = s.rom := rfl
@[simp] theorem State.setD_bankRam1 (s : State) (w : Word) : (s.setD w).bankRam1 = s.bankRam1 := rfl
@[simp] theorem State.setD_bankRam2 (s : State) (w : Word) : (s.setD w).bankRam2 = s.bankRam2 := rfl
@[simp] theorem State.setD_draws (s : State) (w : Word) : (s.setD w).draws = s.draws := rfl
@[simp] theorem State.setD_defragIssued (s : State) (w : Word) : (s.setD w).defragIssued = s.defragIssued := rfl

/-! ### `loadS` -/

@[simp] theorem State.loadS_cfg (s : State) (w : Word) : (s.loadS w).cfg = s.cfg := rfl
@[simp] theorem State.loadS_a (s : State) (w : Word) : (s.loadS w).a = s.a := rfl
@[simp] theorem State.loadS_b (s : State) (w : Word) : (s.loadS w).b = s.b := rfl
@[simp] theorem State.loadS_x (s : State) (w : Word) : (s.loadS w).x = s.x := rfl
@[simp] theorem State.loadS_y (s : State) (w : Word) : (s.loadS w).y = s.y := rfl
@[simp] theorem State.loadS_u (s : State) (w : Word) : (s.loadS w).u = s.u := rfl
@[simp] theorem State.loadS_sp (s : State) (w : Word) : (s.loadS w).sp = w := rfl
@[simp] theorem State.loadS_pc (s : State) (w : Word) : (s.loadS w).pc = s.pc := rfl
@[simp] theorem State.loadS_dp (s : State) (w : Word) : (s.loadS w).dp = s.dp := rfl
@[simp] theorem State.loadS_cc (s : State) (w : Word) : (s.loadS w).cc = s.cc := rfl
@[simp] theorem State.loadS_nmiHist (s : State) (w : Word) : (s.loadS w).nmiHist = s.nmiHist := rfl
@[simp] theorem State.loadS_nmiDisabled (s : State) (w : Word) : (s.loadS w).nmiDisabled = false := rfl
@[simp] theorem State.loadS_wait (s : State) (w : Word) : (s.loadS w).wait = s.wait := rfl
@[simp] theorem State.loadS_busy (s : State) (w : Word) : (s.loadS w).busy = s.busy := rfl
@[simp] theorem State.loadS_fault (s : State) (w : Word) : (s.loadS w).fault = s.fault := rfl
@[simp] theorem State.loadS_nmiN (s : State) (w : Word) : (s.loadS w).nmiN = s.nmiN := rfl
@[simp] theorem State.loadS_firqN (s : State) (w : Word) : (s.loadS w).firqN = s.firqN := rfl
@[simp] theorem State.loadS_irqN (s : State) (w : Word) : (s.loadS w).irqN = s.irqN := rfl
@[simp] theorem State.loadS_mmu (s : State) (w : Word) : (s.loadS w).mmu = s.mmu := rfl
@[simp] theorem State.loadS_ram (s : State) (w : Word) : (s.loadS w).ram = s.ram := rfl
@[simp] theorem State.loadS_rom (s : State) (w : Word) : (s.loadS w).rom = s.rom := rfl
@[simp] theorem State.loadS_bankRam1 (s : State) (w : Word) : (s.loadS w).bankRam1 = s.bankRam1 := rfl
@[simp] theorem State.loadS_bankRam2 (s : State) (w : Word) : (s.loadS w).bankRam2 = s.bankRam2 := rfl
@[simp] theorem State.loadS_draws (s : State) (w : Word) : (s.loadS w).draws = s.draws := rfl
@[simp] theorem State.loadS_defragIssued (s : State) (w : Word) : (s.loadS w).defragIssued = s.defragIssued := rfl

/-! ### `addBusy` -/

@[simp] theorem State.addBusy_cfg (s : State) (n : Nat) : (s.addBusy n).cfg = s.cfg := rfl
@[simp] theorem State.addBusy_a (s : State) (n : Nat) : (s.addBusy n).a = s.a := rfl
@[simp] theorem State.addBusy_b (s : State) (n : Nat) : (s.addBusy n).b = s.b := rfl
@[simp] theorem State.addBusy_x (s : State) (n : Nat) : (s.addBusy n).x = s.x := rfl
@[simp] theorem State.addBusy_y (s : State) (n : Nat) : (s.addBusy n).y = s.y := rfl
@[simp] theorem State.addBusy_u (s : State) (n : Nat) : (s.addBusy n).u = s.u := rfl
@[simp] theorem State.addBusy_sp (s : State) (n : Nat) : (s.addBusy n).sp = s.sp := rfl
@[simp] theorem State.addBusy_pc (s : State) (n : Nat) : (s.addBusy n).pc = s.pc := rfl
@[simp] theorem State.addBusy_dp (s : State) (n : Nat) : (s.addBusy n).dp = s.dp := rfl
@[simp] theorem State.addBusy_cc (s : State) (n : Nat) : (s.addBusy n).cc = s.cc := rfl
@[simp] theorem State.addBusy_nmiHist (s : State) (n : Nat) : (s.addBusy n).nmiHist = s.nmiHist := rfl
@[simp] theorem State.addBusy_nmiDisabled (s : State) (n : Nat) : (s.addBusy n).nmiDisabled = s.nmiDisabled := rfl
@[simp] theorem State.addBusy_wait (s : State) (n : Nat) : (s.addBusy n).wait = s.wait := rfl
@[simp] theorem State.addBusy_busy (s : State) (n : Nat) : (s.addBusy n).busy = s.busy + n := rfl
@[simp] theorem State.addBusy_fault (s : State) (n : Nat) : (s.addBusy n).fault = s.fault := rfl
@[simp] theorem State.addBusy_nmiN (s : State) (n : Nat) : (s.addBusy n).nmiN = s.nmiN := rfl
@[simp] theorem State.addBusy_firqN (s : State) (n : Nat) : (s.addBusy n).firqN = s.firqN := rfl
@[simp] theorem State.addBusy_irqN (s : State) (n : Nat) : (s.addBusy n).irqN = s.irqN := rfl
@[simp] theorem State.addBusy_mmu (s : State) (n : Nat) : (s.addBusy n).mmu = s.mmu := rfl
@[simp] theorem State.addBusy_ram (s : State) (n : Nat) : (s.addBusy n).ram = s.ram := rfl
@[simp] theorem State.addBusy_rom (s : State) (n : Nat) : (s.addBusy n).rom = s.rom := rfl
@[simp] theorem State.addBusy_bankRam1 (s : State) (n : Nat) : (s.addBusy n).bankRam1 = s.bankRam1 := rfl
@[simp] theorem State.addBusy_bankRam2 (s : State) (n : Nat) : (s.addBusy n).bankRam2 = s.bankRam2 := rfl
@[simp] theorem State.addBusy_draws (s : State) (n : Nat) : (s.addBusy n).draws = s.draws := rfl
@[simp] theorem State.addBusy_defragIssued (s : State) (n : Nat) : (s.addBusy n).defragIssued = s.defragIssued := rfl

/-! ### `maskInterrupts` -/

@[simp] theorem State.maskInterrupts_cfg (s : State) : (s.maskInterrupts).cfg = s.cfg := rfl
@[simp] theorem State.maskInterrupts_a (s : State) : (s.maskInterrupts).a = s.a := rfl
@[simp] theorem State.maskInterrupts_b (s : State) : (s.maskInterrupts).b = s.b := rfl
@[simp] theorem State.maskInterrupts_x (s : State) : (s.maskInterrupts).x = s.x := rfl
@[simp] theorem State.maskInterrupts_y (s : State) : (s.maskInterrupts).y = s.y := rfl
@[simp] theorem State.maskInterrupts_u (s : State) : (s.maskInterrupts).u = s.u := rfl
@[simp] theorem State.maskInterrupts_sp (s : State) : (s.maskInterrupts).sp = s.sp := rfl
@[simp] theorem State.maskInterrupts_pc (s : State) : (s.maskInterrupts).pc = s.pc := rfl
@[simp] theorem State.maskInterrupts_dp (s : State) : (s.maskInterrupts).dp = s.dp := rfl
@[simp] theorem State.maskInterrupts_cc (s : State) : (s.maskInterrupts).cc = { s.cc with f := true, i := true } := rfl
@[simp] theorem State.maskInterrupts_nmiHist (s : State) : (s.maskInterrupts).nmiHist = s.nmiHist := rfl
@[simp] theorem State.maskInterrupts_nmiDisabled (s : State) : (s.maskInterrupts).nmiDisabled = s.nmiDisabled := rfl
@[simp] theorem State.maskInterrupts_wait (s : State) : (s.maskInterrupts).wait = s.wait := rfl
@[simp] theorem State.maskInterrupts_busy (s : State) : (s.maskInterrupts).busy = s.busy := rfl
@[simp] theorem State.maskInterrupts_fault (s : State) : (s.maskInterrupts).fault = s.fault := rfl
@[simp] theorem State.maskInterrupts_nmiN (s : State) : (s.maskInterrupts).nmiN = s.nmiN := rfl
@[simp] theorem State.maskInterrupts_firqN (s : State) : (s.maskInterrupts).firqN = s.firqN := rfl
@[simp] theorem State.maskInterrupts_irqN (s : State) : (s.maskInterrupts).irqN = s.irqN := rfl
@[simp] theorem State.maskInterrupts_mmu (s : State) : (s.maskInterrupts).mmu = s.mmu := rfl
@[simp] theorem State.maskInterrupts_ram (s : State) : (s.maskInterrupts).ram = s.ram := rfl
@[simp] theorem State.maskInterrupts_rom (s : State) : (s.maskInterrupts).rom = s.rom := rfl
@[simp] theorem State.maskInterrupts_bankRam1 (s : State) : (s.maskInterrupts).bankRam1 = s.bankRam1 := rfl
@[simp] theorem State.maskInterrupts_bankRam2 (s : State) : (s.maskInterrupts).bankRam2 = s.bankRam2 := rfl
@[simp] theorem State.maskInterrupts_draws (s : State) : (s.maskInterrupts).draws = s.draws := rfl
@[simp] theorem State.maskInterrupts_defragIssued (s : State) : (s.maskInterrupts).defragIssued = s.defragIssued := rfl

/-! ### `setE` -/

@[simp] theorem State.setE_cfg (s : State) (v : Bool) : (s.setE v).cfg = s.cfg := rfl
@[simp] theorem State.setE_a (s : State) (v : Bool) : (s.setE v).a = s.a := rfl
@[simp] theorem State.setE_b (s : State) (v : Bool) : (s.setE v).b = s.b := rfl
@[simp] theorem State.setE_x (s : State) (v : Bool) : (s.setE v).x = s.x := rfl
@[simp] theorem State.setE_y (s : State) (v : Bool) : (s.setE v).y = s.y := rfl
@[simp] theorem State.setE_u (s : State) (v : Bool) : (s.setE v).u = s.u := rfl
@[simp] theorem State.setE_sp (s : State) (v : Bool) : (s.setE v).sp = s.sp := rfl
@[simp] theorem State.setE_pc (s : State) (v : Bool) : (s.setE v).pc = s.pc := rfl
@[simp] theorem State.setE_dp (s : State) (v : Bool) : (s.setE v).dp = s.dp := rfl
@[simp] theorem State.setE_cc (s : State) (v : Bool) : (s.setE v).cc = { s.cc with e := v } := rfl
@[simp] theorem State.setE_nmiHist (s : State) (v : Bool) : (s.setE v).nmiHist = s.nmiHist := rfl
@[simp] theorem State.setE_nmiDisabled (s : State) (v : Bool) : (s.setE v).nmiDisabled = s.nmiDisabled := rfl
@[simp] theorem State.setE_wait (s : State) (v : Bool) : (s.setE v).wait = s.wait := rfl
@[simp] theorem State.setE_busy (s : State) (v : Bool) : (s.setE v).busy = s.busy := rfl
@[simp] theorem State.setE_fault (s : State) (v : Bool) : (s.setE v).fault = s.fault := rfl
@[simp] theorem State.setE_nmiN (s : State) (v : Bool) : (s.setE v).nmiN = s.nmiN := rfl
@[simp] theorem State.setE_firqN (s : State) (v : Bool) : (s.setE v).firqN = s.firqN := rfl
@[simp] theorem State.setE_irqN (s : State) (v : Bool) : (s.setE v).irqN = s.irqN := rfl
@[simp] theorem State.setE_mmu (s : State) (v : Bool) : (s.setE v).mmu = s.mmu := rfl
@[simp] theorem State.setE_ram (s : State) (v : Bool) : (s.setE v).ram = s.ram := rfl
@[simp] theorem State.setE_rom (s : State) (v : Bool) : (s.setE v).rom = s.rom := rfl
@[simp] theorem State.setE_bankRam1 (s : State) (v : Bool) : (s.setE v).bankRam1 = s.bankRam1 := rfl
@[simp] theorem State.setE_bankRam2 (s : State) (v : Bool) : (s.setE v).bankRam2 = s.bankRam2 := rfl
@[simp] theorem State.setE_draws (s : State) (v : Bool) : (s.setE v).draws = s.draws := rfl
@[simp] theorem State.setE_defragIssued (s : State) (v : Bool) : (s.setE v).defragIssued = s.defragIssued := rfl

/-! ### `raise` -/

@[simp] theorem State.raise_cfg (s : State) (k : FaultKind) (info : Word) (start : Addr) : (s.raise k info start).cfg = s.cfg := rfl
@[simp] theorem State.raise_a (s : State) (k : FaultKind) (info : Word) (start : Addr) : (s.raise k info start).a = s.a := rfl
@[simp] theorem State.raise_b (s : State) (k : FaultKind) (info : Word) (start : Addr) : (s.raise k info start).b = s.b := rfl
@[simp] theorem State.raise_x (s : State) (k : FaultKind) (info : Word) (start : Addr) : (s.raise k info start).x = s.x := rfl
@[simp] theorem State.raise_y (s : State) (k : FaultKind) (info : Word) (start : Addr) : (s.raise k info start).y = s.y := rfl
@[simp] theorem State.raise_u (s : State) (k : FaultKind) (info : Word) (start : Addr) : (s.raise k info start).u = s.u := rfl
@[simp] theorem State.raise_sp (s : State) (k : FaultKind) (info : Word) (start : Addr) : (s.raise k info start).sp = s.sp := rfl
@[simp] theorem State.raise_pc (s : State) (k : FaultKind) (info : Word) (start : Addr) : (s.raise k info start).pc = s.pc := rfl
@[simp] theorem State.raise_dp (s : State) (k : FaultKind) (info : Word) (start : Addr) : (s.raise k info start).dp = s.dp := rfl
@[simp] theorem State.raise_cc (s : State) (k : FaultKind) (info : Word) (start : Addr) : (s.raise k info start).cc = s.cc := rfl
@[simp] theorem State.raise_nmiHist (s : State) (k : FaultKind) (info : Word) (start : Addr) : (s.raise k info start).nmiHist = s.nmiHist := rfl
@[simp] theorem State.raise_nmiDisabled (s : State) (k : FaultKind) (info : Word) (start : Addr) : (s.raise k info start).nmiDisabled = s.nmiDisabled := rfl
@[simp] theorem State.raise_wait (s : State) (k : FaultKind) (info : Word) (start : Addr) : (s.raise k info start).wait = s.wait := rfl
@[simp] theorem State.raise_busy (s : State) (k : FaultKind) (info : Word) (start : Addr) : (s.raise k info start).busy = 0 := rfl
@[simp] theorem State.raise_fault (s : State) (k : FaultKind) (info : Word) (start : Addr) : (s.raise k info start).fault = some ⟨k, info, start⟩ := rfl
@[simp] theorem State.raise_nmiN (s : State) (k : FaultKind) (info : Word) (start : Addr) : (s.raise k info start).nmiN = s.nmiN := rfl
@[simp] theorem State.raise_firqN (s : State) (k : FaultKind) (info : Word) (start : Addr) : (s.raise k info start).firqN = s.firqN := rfl
@[simp] theorem State.raise_irqN (s : State) (k : FaultKind) (info : Word) (start : Addr) : (s.raise k info start).irqN = s.irqN := rfl
@[simp] theorem State.raise_mmu (s : State) (k : FaultKind) (info : Word) (start : Addr) : (s.raise k info start).mmu = s.mmu := rfl
@[simp] theorem State.raise_ram (s : State) (k : FaultKind) (info : Word) (start : Addr) : (s.raise k info start).ram = s.ram := rfl
@[simp] theorem State.raise_rom (s : State) (k : FaultKind) (info : Word) (start : Addr) : (s.raise k info start).rom = s.rom := rfl
@[simp] theorem State.raise_bankRam1 (s : State) (k : FaultKind) (info : Word) (start : Addr) : (s.raise k info start).bankRam1 = s.bankRam1 := rfl
@[simp] theorem State.raise_bankRam2 (s : State) (k : FaultKind) (info : Word) (start : Addr) : (s.raise k info start).bankRam2 = s.bankRam2 := rfl
@[simp] theorem State.raise_draws (s : State) (k : FaultKind) (info : Word) (start : Addr) : (s.raise k info start).draws = s.draws := rfl
@[simp] theorem State.raise_defragIssued (s : State) (k : FaultKind) (info : Word) (start : Addr) : (s.raise k info start).defragIssued = s.defragIssued := rfl

/-! ### `bankFail` -/

@[simp] theorem State.bankFail_cfg (s : State) : (s.bankFail).cfg = s.cfg := rfl
@[simp] theorem State.bankFail_a (s : State) : (s.bankFail).a = s.a := rfl
@[simp] theorem State.bankFail_b (s : State) : (s.bankFail).b = s.b := rfl
@[simp] theorem State.bankFail_x (s : State) : (s.bankFail).x = s.x := rfl
@[simp] theorem State.bankFail_y (s : State) : (s.bankFail).y = s.y := rfl
@[simp] theorem State.bankFail_u (s : State) : (s.bankFail).u = s.u := rfl
@[simp] theorem State.bankFail_sp (s : State) : (s.bankFail).sp = s.sp := rfl
@[simp] theorem State.bankFail_pc (s : State) : (s.bankFail).pc = s.pc := rfl
@[simp] theorem State.bankFail_dp (s : State) : (s.bankFail).dp = s.dp := rfl
@[simp] theorem State.bankFail_cc (s : State) : (s.bankFail).cc = s.cc := rfl
@[simp] theorem State.bankFail_nmiHist (s : State) : (s.bankFail).nmiHist = s.nmiHist := rfl
@[simp] theorem State.bankFail_nmiDisabled (s : State) : (s.bankFail).nmiDisabled = s.nmiDisabled := rfl
@[simp] theorem State.bankFail_wait (s : State) : (s.bankFail).wait = s.wait := rfl
@[simp] theorem State.bankFail_busy (s : State) : (s.bankFail).busy = s.busy := rfl
@[simp] theorem State.bankFail_fault (s : State) : (s.bankFail).fault = s.fault := rfl
@[simp] theorem State.bankFail_nmiN (s : State) : (s.bankFail).nmiN = s.nmiN := rfl
@[simp] theorem State.bankFail_firqN (s : State) : (s.bankFail).firqN = s.firqN := rfl
@[simp] theorem State.bankFail_irqN (s : State) : (s.bankFail).irqN = s.irqN := rfl
@[simp] theorem State.bankFail_mmu (s : State) : (s.bankFail).mmu = s.mmu.fail s.cfg.errors.bank := rfl
@[simp] theorem State.bankFail_ram (s : State) : (s.bankFail).ram = s.ram := rfl
@[simp] theorem State.bankFail_rom (s : State) : (s.bankFail).rom = s.rom := rfl
@[simp] theorem State.bankFail_bankRam1 (s : State) : (s.bankFail).bankRam1 = s.bankRam1 := rfl
@[simp] theorem State.bankFail_bankRam2 (s : State) : (s.bankFail).bankRam2 = s.bankRam2 := rfl
@[simp] theorem State.bankFail_draws (s : State) : (s.bankFail).draws = s.draws := rfl
@[simp] theorem State.bankFail_defragIssued (s : State) : (s.bankFail).defragIssued = s.defragIssued := rfl

/-! ### `jump` -/

@[simp] theorem State.jump_cfg (s : State) (a : Addr) : (s.jump a).cfg = s.cfg := rfl
@[simp] theorem State.jump_a (s : State) (a : Addr) : (s.jump a).a = s.a := rfl
@[simp] theorem State.jump_b (s : State) (a : Addr) : (s.jump a).b = s.b := rfl
@[simp] theorem State.jump_x (s : State) (a : Addr) : (s.jump a).x = s.x := rfl
@[simp] theorem State.jump_y (s : State) (a : Addr) : (s.jump a).y = s.y := rfl
@[simp] theorem State.jump_u (s : State) (a : Addr) : (s.jump a).u = s.u := rfl
@[simp] theorem State.jump_sp (s : State) (a : Addr) : (s.jump a).sp = s.sp := rfl
@[simp] theorem State.jump_pc (s : State) (a : Addr) : (s.jump a).pc = a := rfl
@[simp] theorem State.jump_dp (s : State) (a : Addr) : (s.jump a).dp = s.dp := rfl
@[simp] theorem State.jump_cc (s : State) (a : Addr) : (s.jump a).cc = s.cc := rfl
@[simp] theorem State.jump_nmiHist (s : State) (a : Addr) : (s.jump a).nmiHist = s.nmiHist := rfl
@[simp] theorem State.jump_nmiDisabled (s : State) (a : Addr) : (s.jump a).nmiDisabled = s.nmiDisabled := rfl
@[simp] theorem State.jump_wait (s : State) (a : Addr) : (s.jump a).wait = s.wait := rfl
@[simp] theorem State.jump_busy (s : State) (a : Addr) : (s.jump a).busy = s.busy := rfl
@[simp] theorem State.jump_fault (s : State) (a : Addr) : (s.jump a).fault = s.fault := rfl
@[simp] theorem State.jump_nmiN (s : State) (a : Addr) : (s.jump a).nmiN = s.nmiN := rfl
@[simp] theorem State.jump_firqN (s : State) (a : Addr) : (s.jump a).firqN = s.firqN := rfl
@[simp] theorem State.jump_irqN (s : State) (a : Addr) : (s.jump a).irqN = s.irqN := rfl
@[simp] theorem State.jump_mmu (s : State) (a : Addr) : (s.jump a).mmu = s.mmu := rfl
@[simp] theorem State.jump_ram (s : State) (a : Addr) : (s.jump a).ram = s.ram := rfl
@[simp] theorem State.jump_rom (s : State) (a : Addr) : (s.jump a).rom = s.rom := rfl
@[simp] theorem State.jump_bankRam1 (s : State) (a : Addr) : (s.jump a).bankRam1 = s.bankRam1 := rfl
@[simp] theorem State.jump_bankRam2 (s : State) (a : Addr) : (s.jump a).bankRam2 = s.bankRam2 := rfl
@[simp] theorem State.jump_draws (s : State) (a : Addr) : (s.jump a).draws = s.draws := rfl
@[simp] theorem State.jump_defragIssued (s : State) (a : Addr) : (s.jump a).defragIssued = s.defragIssued := rfl

/-! ### `andCC` -/

@[simp] theorem State.andCC_cfg (s : State) (m : Byte) : (s.andCC m).cfg = s.cfg := rfl
@[simp] theorem State.andCC_a (s : State) (m : Byte) : (s.andCC m).a = s.a := rfl
@[simp] theorem State.andCC_b (s : State) (m : Byte) : (s.andCC m).b = s.b := rfl
@[simp] theorem State.andCC_x (s : State) (m : Byte) : (s.andCC m).x = s.x := rfl
@[simp] theorem State.andCC_y (s : State) (m : Byte) : (s.andCC m).y = s.y := rfl
@[simp] theorem State.andCC_u (s : State) (m : Byte) : (s.andCC m).u = s.u := rfl
@[simp] theorem State.andCC_sp (s : State) (m : Byte) : (s.andCC m).sp = s.sp := rfl
@[simp] theorem State.andCC_pc (s : State) (m : Byte) : (s.andCC m).pc = s.pc := rfl
@[simp] theorem State.andCC_dp (s : State) (m : Byte) : (s.andCC m).dp = s.dp := rfl
@[simp] theorem State.andCC_cc (s : State) (m : Byte) : (s.andCC m).cc = CC.ofByte (s.cc.toByte &&& m) := rfl
@[simp] theorem State.andCC_nmiHist (s : State) (m : Byte) : (s.andCC m).nmiHist = s.nmiHist := rfl
@[simp] theorem State.andCC_nmiDisabled (s : State) (m : Byte) : (s.andCC m).nmiDisabled = s.nmiDisabled := rfl
@[simp] theorem State.andCC_wait (s : State) (m : Byte) : (s.andCC m).wait = s.wait := rfl
@[simp] theorem State.andCC_busy (s : State) (m : Byte) : (s.andCC m).busy = s.busy := rfl
@[simp] theorem State.andCC_fault (s : State) (m : Byte) : (s.andCC m).fault = s.fault := rfl
@[simp] theorem State.andCC_nmiN (s : State) (m : Byte) : (s.andCC m).nmiN = s.nmiN := rfl
@[simp] theorem State.andCC_firqN (s : State) (m : Byte) : (s.andCC m).firqN = s.firqN := rfl
@[simp] theorem State.andCC_irqN (s : State) (m : Byte) : (s.andCC m).irqN = s.irqN := rfl
@[simp] theorem State.andCC_mmu (s : State) (m : Byte) : (s.andCC m).mmu = s.mmu := rfl
@[simp] theorem State.andCC_ram (s : State) (m : Byte) : (s.andCC m).ram = s.ram := rfl
@[simp] theorem State.andCC_rom (s : State) (m : Byte) : (s.andCC m).rom = s.rom := rfl
@[simp] theorem State.andCC_bankRam1 (s : State) (m : Byte) : (s.andCC m).bankRam1 = s.bankRam1 := rfl
@[simp] theorem State.andCC_bankRam2 (s : State) (m : Byte) : (s.andCC m).bankRam2 = s.bankRam2 := rfl
@[simp] theorem State.andCC_draws (s : State) (m : Byte) : (s.andCC m).draws = s.draws := rfl
@[simp] theorem State.andCC_defragIssued (s : State) (m : Byte) : (s.andCC m).defragIssued = s.defragIssued := rfl

/-! ### `orCC` -/

@[simp] theorem State.orCC_cfg (s : State) (m : Byte) : (s.orCC m).cfg = s.cfg := rfl
@[simp] theorem State.orCC_a (s : State) (m : Byte) : (s.orCC m).a = s.a := rfl
@[simp] theorem State.orCC_b (s : State) (m : Byte) : (s.orCC m).b = s.b := rfl
@[simp] theorem State.orCC_x (s : State) (m : Byte) : (s.orCC m).x = s.x := rfl
@[simp] theorem State.orCC_y (s : State) (m : Byte) : (s.orCC m).y = s.y := rfl
@[simp] theorem State.orCC_u (s : State) (m : Byte) : (s.orCC m).u = s.u := rfl
@[simp] theorem State.orCC_sp (s : State) (m : Byte) : (s.orCC m).sp = s.sp := rfl
@[simp] theorem State.orCC_pc (s : State) (m : Byte) : (s.orCC m).pc = s.pc := rfl
@[simp] theorem State.orCC_dp (s : State) (m : Byte) : (s.orCC m).dp = s.dp := rfl
@[simp] theorem State.orCC_cc (s : State) (m : Byte) : (s.orCC m).cc = CC.ofByte (s.cc.toByte ||| m) := rfl
@[simp] theorem State.orCC_nmiHist (s : State) (m : Byte) : (s.orCC m).nmiHist = s.nmiHist := rfl
@[simp] theorem State.orCC_nmiDisabled (s : State) (m : Byte) : (s.orCC m).nmiDisabled = s.nmiDisabled := rfl
@[simp] theorem State.orCC_wait (s : State) (m : Byte) : (s.orCC m).wait = s.wait := rfl
@[simp] theorem State.orCC_busy (s : State) (m : Byte) : (s.orCC m).busy = s.busy := rfl
@[simp] theorem State.orCC_fault (s : State) (m : Byte) : (s.orCC m).fault = s.fault := rfl
@[simp] theorem State.orCC_nmiN (s : State) (m : Byte) : (s.orCC m).nmiN = s.nmiN := rfl
@[simp] theorem State.orCC_firqN (s : State) (m : Byte) : (s.orCC m).firqN = s.firqN := rfl
@[simp] theorem State.orCC_irqN (s : State) (m : Byte) : (s.orCC m).irqN = s.irqN := rfl
@[simp] theorem State.orCC_mmu (s : State) (m : Byte) : (s.orCC m).mmu = s.mmu := rfl
@[simp] theorem State.orCC_ram (s : State) (m : Byte) : (s.orCC m).ram = s.ram := rfl
@[simp] theorem State.orCC_rom (s : State) (m : Byte) : (s.orCC m).rom = s.rom := rfl
@[simp] theorem State.orCC_bankRam1 (s : State) (m : Byte) : (s.orCC m).bankRam1 = s.bankRam1 := rfl
@[simp] theorem State.orCC_bankRam2 (s : State) (m : Byte) : (s.orCC m).bankRam2 = s.bankRam2 := rfl
@[simp] theorem State.orCC_draws (s : State) (m : Byte) : (s.orCC m).draws = s.draws := rfl
@[simp] theorem State.orCC_defragIssued (s : State) (m : Byte) : (s.orCC m).defragIssued = s.defragIssued := rfl

/-! ### `withLines` -/

@[simp] theorem State.withLines_cfg (s : State) (nmi firq irq : Bool) : (s.withLines nmi firq irq).cfg = s.cfg := rfl
@[simp] theorem State.withLines_a (s : State) (nmi firq irq : Bool) : (s.withLines nmi firq irq).a = s.a := rfl
@[simp] theorem State.withLines_b (s : State) (nmi firq irq : Bool) : (s.withLines nmi firq irq).b = s.b := rfl
@[simp] theorem State.withLines_x (s : State) (nmi firq irq : Bool) : (s.withLines nmi firq irq).x = s.x := rfl
@[simp] theorem State.withLines_y (s : State) (nmi firq irq : Bool) : (s.withLines nmi firq irq).y = s.y := rfl
@[simp] theorem State.withLines_u (s : State) (nmi firq irq : Bool) : (s.withLines nmi firq irq).u = s.u := rfl
@[simp] theorem State.withLines_sp (s : State) (nmi firq irq : Bool) : (s.withLines nmi firq irq).sp = s.sp := rfl
@[simp] theorem State.withLines_pc (s : State) (nmi firq irq : Bool) : (s.withLines nmi firq irq).pc = s.pc := rfl
@[simp] theorem State.withLines_dp (s : State) (nmi firq irq : Bool) : (s.withLines nmi firq irq).dp = s.dp := rfl
@[simp] theorem State.withLines_cc (s : State) (nmi firq irq : Bool) : (s.withLines nmi firq irq).cc = s.cc := rfl
@[simp] theorem State.withLines_nmiHist (s : State) (nmi firq irq : Bool) : (s.withLines nmi firq irq).nmiHist = s.nmiHist := rfl
@[simp] theorem State.withLines_nmiDisabled (s : State) (nmi firq irq : Bool) : (s.withLines nmi firq irq).nmiDisabled = s.nmiDisabled := rfl
@[simp] theorem State.withLines_wait (s : State) (nmi firq irq : Bool) : (s.withLines nmi firq irq).wait = s.wait := rfl
@[simp] theorem State.withLines_busy (s : State) (nmi firq irq : Bool) : (s.withLines nmi firq irq).busy = s.busy := rfl
@[simp] theorem State.withLines_fault (s : State) (nmi firq irq : Bool) : (s.withLines nmi firq irq).fault = s.fault := rfl
@[simp] theorem State.withLines_nmiN (s : State) (nmi firq irq : Bool) : (s.withLines nmi firq irq).nmiN = nmi := rfl
@[simp] theorem State.withLines_firqN (s : State) (nmi firq irq : Bool) : (s.withLines nmi firq irq).firqN = firq := rfl
@[simp] theorem State.withLines_irqN (s : State) (nmi firq irq : Bool) : (s.withLines nmi firq irq).irqN = irq := rfl
@[simp] theorem State.withLines_mmu (s : State) (nmi firq irq : Bool) : (s.withLines nmi firq irq).mmu = s.mmu := rfl
@[simp] theorem State.withLines_ram (s : State) (nmi firq irq : Bool) : (s.withLines nmi firq irq).ram = s.ram := rfl
@[simp] theorem State.withLines_rom (s : State) (nmi firq irq : Bool) : (s.withLines nmi firq irq).rom = s.rom := rfl
@[simp] theorem State.withLines_bankRam1 (s : State) (nmi firq irq : Bool) : (s.withLines nmi firq irq).bankRam1 = s.bankRam1 := rfl
@[simp] theorem State.withLines_bankRam2 (s : State) (nmi firq irq : Bool) : (s.withLines nmi firq irq).bankRam2 = s.bankRam2 := rfl
@[simp] theorem State.withLines_draws (s : State) (nmi firq irq : Bool) : (s.withLines nmi firq irq).draws = s.draws := rfl
@[simp] theorem State.withLines_defragIssued (s : State) (nmi firq irq : Bool) : (s.withLines nmi firq irq).defragIssued = s.defragIssued := rfl

/-! ### Free values -/

@[simp] theorem State.drawByte_fst (s : State) : s.drawByte.1 = Config.freeByte s.draws := rfl
@[simp] theorem State.drawByte_cfg (s : State) : s.drawByte.2.cfg = s.cfg := rfl
@[simp] theorem State.drawByte_a (s : State) : s.drawByte.2.a = s.a := rfl
@[simp] theorem State.drawByte_b (s : State) : s.drawByte.2.b = s.b := rfl
@[simp] theorem State.drawByte_x (s : State) : s.drawByte.2.x = s.x := rfl
@[simp] theorem State.drawByte_y (s : State) : s.drawByte.2.y = s.y := rfl
@[simp] theorem State.drawByte_u (s : State) : s.drawByte.2.u = s.u := rfl
@[simp] theorem State.drawByte_sp (s : State) : s.drawByte.2.sp = s.sp := rfl
@[simp] theorem State.drawByte_pc (s : State) : s.drawByte.2.pc = s.pc := rfl
@[simp] theorem State.drawByte_dp (s : State) : s.drawByte.2.dp = s.dp := rfl
@[simp] theorem State.drawByte_cc (s : State) : s.drawByte.2.cc = s.cc := rfl
@[simp] theorem State.drawByte_nmiHist (s : State) : s.drawByte.2.nmiHist = s.nmiHist := rfl
@[simp] theorem State.drawByte_nmiDisabled (s : State) : s.drawByte.2.nmiDisabled = s.nmiDisabled := rfl
@[simp] theorem State.drawByte_wait (s : State) : s.drawByte.2.wait = s.wait := rfl
@[simp] theorem State.drawByte_busy (s : State) : s.drawByte.2.busy = s.busy := rfl
@[simp] theorem State.drawByte_fault (s : State) : s.drawByte.2.fault = s.fault := rfl
@[simp] theorem State.drawByte_nmiN (s : State) : s.drawByte.2.nmiN = s.nmiN := rfl
@[simp] theorem State.drawByte_firqN (s : State) : s.drawByte.2.firqN = s.firqN := rfl
@[simp] theorem State.drawByte_irqN (s : State) : s.drawByte.2.irqN = s.irqN := rfl
@[simp] theorem State.drawByte_mmu (s : State) : s.drawByte.2.mmu = s.mmu := rfl
@[simp] theorem State.drawByte_ram (s : State) : s.drawByte.2.ram = s.ram := rfl
@[simp] theorem State.drawByte_rom (s : State) : s.drawByte.2.rom = s.rom := rfl
@[simp] theorem State.drawByte_bankRam1 (s : State) : s.drawByte.2.bankRam1 = s.bankRam1 := rfl
@[simp] theorem State.drawByte_bankRam2 (s : State) : s.drawByte.2.bankRam2 = s.bankRam2 := rfl
@[simp] theorem State.drawByte_draws (s : State) : s.drawByte.2.draws = s.draws + 1 := rfl
@[simp] theorem State.drawByte_defragIssued (s : State) : s.drawByte.2.defragIssued = s.defragIssued := rfl

@[simp] theorem State.drawFlag_fst (s : State) : s.drawFlag.1 = Config.freeFlag s.draws := rfl
@[simp] theorem State.drawFlag_cfg (s : State) : s.drawFlag.2.cfg = s.cfg := rfl
@[simp] theorem State.drawFlag_a (s : State) : s.drawFlag.2.a = s.a := rfl
@[simp] theorem State.drawFlag_b (s : State) : s.drawFlag.2.b = s.b := rfl
@[simp] theorem State.drawFlag_x (s : State) : s.drawFlag.2.x = s.x := rfl
@[simp] theorem State.drawFlag_y (s : State) : s.drawFlag.2.y = s.y := rfl
@[simp] theorem State.drawFlag_u (s : State) : s.drawFlag.2.u = s.u := rfl
@[simp] theorem State.drawFlag_sp (s : State) : s.drawFlag.2.sp = s.sp := rfl
@[simp] theorem State.drawFlag_pc (s : State) : s.drawFlag.2.pc = s.pc := rfl
@[simp] theorem State.drawFlag_dp (s : State) : s.drawFlag.2.dp = s.dp := rfl
@[simp] theorem State.drawFlag_cc (s : State) : s.drawFlag.2.cc = s.cc := rfl
@[simp] theorem State.drawFlag_nmiHist (s : State) : s.drawFlag.2.nmiHist = s.nmiHist := rfl
@[simp] theorem State.drawFlag_nmiDisabled (s : State) : s.drawFlag.2.nmiDisabled = s.nmiDisabled := rfl
@[simp] theorem State.drawFlag_wait (s : State) : s.drawFlag.2.wait = s.wait := rfl
@[simp] theorem State.drawFlag_busy (s : State) : s.drawFlag.2.busy = s.busy := rfl
@[simp] theorem State.drawFlag_fault (s : State) : s.drawFlag.2.fault = s.fault := rfl
@[simp] theorem State.drawFlag_nmiN (s : State) : s.drawFlag.2.nmiN = s.nmiN := rfl
@[simp] theorem State.drawFlag_firqN (s : State) : s.drawFlag.2.firqN = s.firqN := rfl
@[simp] theorem State.drawFlag_irqN (s : State) : s.drawFlag.2.irqN = s.irqN := rfl
@[simp] theorem State.drawFlag_mmu (s : State) : s.drawFlag.2.mmu = s.mmu := rfl
@[simp] theorem State.drawFlag_ram (s : State) : s.drawFlag.2.ram = s.ram := rfl
@[simp] theorem State.drawFlag_rom (s : State) : s.drawFlag.2.rom = s.rom := rfl
@[simp] theorem State.drawFlag_bankRam1 (s : State) : s.drawFlag.2.bankRam1 = s.bankRam1 := rfl
@[simp] theorem State.drawFlag_bankRam2 (s : State) : s.drawFlag.2.bankRam2 = s.bankRam2 := rfl
@[simp] theorem State.drawFlag_draws (s : State) : s.drawFlag.2.draws = s.draws + 1 := rfl
@[simp] theorem State.drawFlag_defragIssued (s : State) : s.drawFlag.2.defragIssued = s.defragIssued := rfl

/-! ### `setAcc` -/

@[simp] theorem State.setAcc_cfg (s : State) (r : Acc) (v : Byte) : (s.setAcc r v).cfg = s.cfg := by
  cases r <;> rfl
@[simp] theorem State.setAcc_x (s : State) (r : Acc) (v : Byte) : (s.setAcc r v).x = s.x := by
  cases r <;> rfl
@[simp] theorem State.setAcc_y (s : State) (r : Acc) (v : Byte) : (s.setAcc r v).y = s.y := by
  cases r <;> rfl
@[simp] theorem State.setAcc_u (s : State) (r : Acc) (v : Byte) : (s.setAcc r v).u = s.u := by
  cases r <;> rfl
@[simp] theorem State.setAcc_sp (s : State) (r : Acc) (v : Byte) : (s.setAcc r v).sp = s.sp := by
  cases r <;> rfl
@[simp] theorem State.setAcc_pc (s : State) (r : Acc) (v : Byte) : (s.setAcc r v).pc = s.pc := by
  cases r <;> rfl
@[simp] theorem State.setAcc_dp (s : State) (r : Acc) (v : Byte) : (s.setAcc r v).dp = s.dp := by
  cases r <;> rfl
@[simp] theorem State.setAcc_cc (s : State) (r : Acc) (v : Byte) : (s.setAcc r v).cc = s.cc := by
  cases r <;> rfl
@[simp] theorem State.setAcc_nmiHist (s : State) (r : Acc) (v : Byte) : (s.setAcc r v).nmiHist = s.nmiHist := by
  cases r <;> rfl
@[simp] theorem State.setAcc_nmiDisabled (s : State) (r : Acc) (v : Byte) : (s.setAcc r v).nmiDisabled = s.nmiDisabled := by
  cases r <;> rfl
@[simp] theorem State.setAcc_wait (s : State) (r : Acc) (v : Byte) : (s.setAcc r v).wait = s.wait := by
  cases r <;> rfl
@[simp] theorem State.setAcc_busy (s : State) (r : Acc) (v : Byte) : (s.setAcc r v).busy = s.busy := by
  cases r <;> rfl
@[simp] theorem State.setAcc_fault (s : State) (r : Acc) (v : Byte) : (s.setAcc r v).fault = s.fault := by
  cases r <;> rfl
@[simp] theorem State.setAcc_nmiN (s : State) (r : Acc) (v : Byte) : (s.setAcc r v).nmiN = s.nmiN := by
  cases r <;> rfl
@[simp] theorem State.setAcc_firqN (s : State) (r : Acc) (v : Byte) : (s.setAcc r v).firqN = s.firqN := by
  cases r <;> rfl
@[simp] theorem State.setAcc_irqN (s : State) (r : Acc) (v : Byte) : (s.setAcc r v).irqN = s.irqN := by
  cases r <;> rfl
@[simp] theorem State.setAcc_mmu (s : State) (r : Acc) (v : Byte) : (s.setAcc r v).mmu = s.mmu := by
  cases r <;> rfl
@[simp] theorem State.setAcc_ram (s : State) (r : Acc) (v : Byte) : (s.setAcc r v).ram = s.ram := by
  cases r <;> rfl
@[simp] theorem State.setAcc_rom (s : State) (r : Acc) (v : Byte) : (s.setAcc r v).rom = s.rom := by
  cases r <;> rfl
@[simp] theorem State.setAcc_bankRam1 (s : State) (r : Acc) (v : Byte) : (s.setAcc r v).bankRam1 = s.bankRam1 := by
  cases r <;> rfl
@[simp] theorem State.setAcc_bankRam2 (s : State) (r : Acc) (v : Byte) : (s.setAcc r v).bankRam2 = s.bankRam2 := by
  cases r <;> rfl
@[simp] theorem State.setAcc_draws (s : State) (r : Acc) (v : Byte) : (s.setAcc r v).draws = s.draws := by
  cases r <;> rfl
@[simp] theorem State.setAcc_defragIssued (s : State) (r : Acc) (v : Byte) : (s.setAcc r v).defragIssued = s.defragIssued := by
  cases r <;> rfl

/-! ### `loadReg16` -/

@[simp] theorem State.loadReg16_cfg (s : State) (r : Reg16) (w : Word) : (s.loadReg16 r w).cfg = s.cfg := by
  cases r <;> rfl
@[simp] theorem State.loadReg16_pc (s : State) (r : Reg16) (w : Word) : (s.loadReg16 r w).pc = s.pc := by
  cases r <;> rfl
@[simp] theorem State.loadReg16_dp (s : State) (r : Reg16) (w : Word) : (s.loadReg16 r w).dp = s.dp := by
  cases r <;> rfl
@[simp] theorem State.loadReg16_cc (s : State) (r : Reg16) (w : Word) : (s.loadReg16 r w).cc = s.cc := by
  cases r <;> rfl
@[simp] theorem State.loadReg16_nmiHist (s : State) (r : Reg16) (w : Word) : (s.loadReg16 r w).nmiHist = s.nmiHist := by
  cases r <;> rfl
@[simp] theorem State.loadReg16_wait (s : State) (r : Reg16) (w : Word) : (s.loadReg16 r w).wait = s.wait := by
  cases r <;> rfl
@[simp] theorem State.loadReg16_busy (s : State) (r : Reg16) (w : Word) : (s.loadReg16 r w).busy = s.busy := by
  cases r <;> rfl
@[simp] theorem State.loadReg16_fault (s : State) (r : Reg16) (w : Word) : (s.loadReg16 r w).fault = s.fault := by
  cases r <;> rfl
@[simp] theorem State.loadReg16_nmiN (s : State) (r : Reg16) (w : Word) : (s.loadReg16 r w).nmiN = s.nmiN := by
  cases r <;> rfl
@[simp] theorem State.loadReg16_firqN (s : State) (r : Reg16) (w : Word) : (s.loadReg16 r w).firqN = s.firqN := by
  cases r <;> rfl
@[simp] theorem State.loadReg16_irqN (s : State) (r : Reg16) (w : Word) : (s.loadReg16 r w).irqN = s.irqN := by
  cases r <;> rfl
@[simp] theorem State.loadReg16_mmu (s : State) (r : Reg16) (w : Word) : (s.loadReg16 r w).mmu = s.mmu := by
  cases r <;> rfl
@[simp] theorem State.loadReg16_ram (s : State) (r : Reg16) (w : Word) : (s.loadReg16 r w).ram = s.ram := by
  cases r <;> rfl
@[simp] theorem State.loadReg16_rom (s : State) (r : Reg16) (w : Word) : (s.loadReg16 r w).rom = s.rom := by
  cases r <;> rfl
@[simp] theorem State.loadReg16_bankRam1 (s : State) (r : Reg16) (w : Word) : (s.loadReg16 r w).bankRam1 = s.bankRam1 := by
  cases r <;> rfl
@[simp] theorem State.loadReg16_bankRam2 (s : State) (r : Reg16) (w : Word) : (s.loadReg16 r w).bankRam2 = s.bankRam2 := by
  cases r <;> rfl
@[simp] theorem State.loadReg16_draws (s : State) (r : Reg16) (w : Word) : (s.loadReg16 r w).draws = s.draws := by
  cases r <;> rfl
@[simp] theorem State.loadReg16_defragIssued (s : State) (r : Reg16) (w : Word) : (s.loadReg16 r w).defragIssued = s.defragIssued := by
  cases r <;> rfl

/-! ### `setBase` -/

@[simp] theorem State.setBase_cfg (s : State) (r : IdxReg) (w : Word) : (s.setBase r w).cfg = s.cfg := by
  cases r <;> rfl
@[simp] theorem State.setBase_a (s : State) (r : IdxReg) (w : Word) : (s.setBase r w).a = s.a := by
  cases r <;> rfl
@[simp] theorem State.setBase_b (s : State) (r : IdxReg) (w : Word) : (s.setBase r w).b = s.b := by
  cases r <;> rfl
@[simp] theorem State.setBase_pc (s : State) (r : IdxReg) (w : Word) : (s.setBase r w).pc = s.pc := by
  cases r <;> rfl
@[simp] theorem State.setBase_dp (s : State) (r : IdxReg) (w : Word) : (s.setBase r w).dp = s.dp := by
  cases r <;> rfl
@[simp] theorem State.setBase_cc (s : State) (r : IdxReg) (w : Word) : (s.setBase r w).cc = s.cc := by
  cases r <;> rfl
@[simp] theorem State.setBase_nmiHist (s : State) (r : IdxReg) (w : Word) : (s.setBase r w).nmiHist = s.nmiHist := by
  cases r <;> rfl
@[simp] theorem State.setBase_nmiDisabled (s : State) (r : IdxReg) (w : Word) : (s.setBase r w).nmiDisabled = s.nmiDisabled := by
  cases r <;> rfl
@[simp] theorem State.setBase_wait (s : State) (r : IdxReg) (w : Word) : (s.setBase r w).wait = s.wait := by
  cases r <;> rfl
@[simp] theorem State.setBase_busy (s : State) (r : IdxReg) (w : Word) : (s.setBase r w).busy = s.busy := by
  cases r <;> rfl
@[simp] theorem State.setBase_fault (s : State) (r : IdxReg) (w : Word) : (s.setBase r w).fault = s.fault := by
  cases r <;> rfl
@[simp] theorem State.setBase_nmiN (s : State) (r : IdxReg) (w : Word) : (s.setBase r w).nmiN = s.nmiN := by
  cases r <;> rfl
@[simp] theorem State.setBase_firqN (s : State) (r : IdxReg) (w : Word) : (s.setBase r w).firqN = s.firqN := by
  cases r <;> rfl
@[simp] theorem State.setBase_irqN (s : State) (r : IdxReg) (w : Word) : (s.setBase r w).irqN = s.irqN := by
  cases r <;> rfl
@[simp] theorem State.setBase_mmu (s : State) (r : IdxReg) (w : Word) : (s.setBase r w).mmu = s.mmu := by
  cases r <;> rfl
@[simp] theorem State.setBase_ram (s : State) (r : IdxReg) (w : Word) : (s.setBase r w).ram = s.ram := by
  cases r <;> rfl
@[simp] theorem State.setBase_rom (s : State) (r : IdxReg) (w : Word) : (s.setBase r w).rom = s.rom := by
  cases r <;> rfl
@[simp] theorem State.setBase_bankRam1 (s : State) (r : IdxReg) (w : Word) : (s.setBase r w).bankRam1 = s.bankRam1 := by
  cases r <;> rfl
@[simp] theorem State.setBase_bankRam2 (s : State) (r : IdxReg) (w : Word) : (s.setBase r w).bankRam2 = s.bankRam2 := by
  cases r <;> rfl
@[simp] theorem State.setBase_draws (s : State) (r : IdxReg) (w : Word) : (s.setBase r w).draws = s.draws := by
  cases r <;> rfl
@[simp] theorem State.setBase_defragIssued (s : State) (r : IdxReg) (w : Word) : (s.setBase r w).defragIssued = s.defragIssued := by
  cases r <;> rfl

/-! ### `setStackPtr` -/

@[simp] theorem State.setStackPtr_cfg (s : State) (k : Stack) (w : Word) : (s.setStackPtr k w).cfg = s.cfg := by
  cases k <;> rfl
@[simp] theorem State.setStackPtr_a (s : State) (k : Stack) (w : Word) : (s.setStackPtr k w).a = s.a := by
  cases k <;> rfl
@[simp] theorem State.setStackPtr_b (s : State) (k : Stack) (w : Word) : (s.setStackPtr k w).b = s.b := by
  cases k <;> rfl
@[simp] theorem State.setStackPtr_x (s : State) (k : Stack) (w : Word) : (s.setStackPtr k w).x = s.x := by
  cases k <;> rfl
@[simp] theorem State.setStackPtr_y (s : State) (k : Stack) (w : Word) : (s.setStackPtr k w).y = s.y := by
  cases k <;> rfl
@[simp] theorem State.setStackPtr_pc (s : State) (k : Stack) (w : Word) : (s.setStackPtr k w).pc = s.pc := by
  cases k <;> rfl
@[simp] theorem State.setStackPtr_dp (s : State) (k : Stack) (w : Word) : (s.setStackPtr k w).dp = s.dp := by
  cases k <;> rfl
@[simp] theorem State.setStackPtr_cc (s : State) (k : Stack) (w : Word) : (s.setStackPtr k w).cc = s.cc := by
  cases k <;> rfl
@[simp] theorem State.setStackPtr_nmiHist (s : State) (k : Stack) (w : Word) : (s.setStackPtr k w).nmiHist = s.nmiHist := by
  cases k <;> rfl
@[simp] theorem State.setStackPtr_nmiDisabled (s : State) (k : Stack) (w : Word) : (s.setStackPtr k w).nmiDisabled = s.nmiDisabled := by
  cases k <;> rfl
@[simp] theorem State.setStackPtr_wait (s : State) (k : Stack) (w : Word) : (s.setStackPtr k w).wait = s.wait := by
  cases k <;> rfl
@[simp] theorem State.setStackPtr_busy (s : State) (k : Stack) (w : Word) : (s.setStackPtr k w).busy = s.busy := by
  cases k <;> rfl
@[simp] theorem State.setStackPtr_fault (s : State) (k : Stack) (w : Word) : (s.setStackPtr k w).fault = s.fault := by
  cases k <;> rfl
@[simp] theorem State.setStackPtr_nmiN (s : State) (k : Stack) (w : Word) : (s.setStackPtr k w).nmiN = s.nmiN := by
  cases k <;> rfl
@[simp] theorem State.setStackPtr_firqN (s : State) (k : Stack) (w : Word) : (s.setStackPtr k w).firqN = s.firqN := by
  cases k <;> rfl
@[simp] theorem State.setStackPtr_irqN (s : State) (k : Stack) (w : Word) : (s.setStackPtr k w).irqN = s.irqN := by
  cases k <;> rfl
@[simp] theorem State.setStackPtr_mmu (s : State) (k : Stack) (w : Word) : (s.setStackPtr k w).mmu = s.mmu := by
  cases k <;> rfl
@[simp] theorem State.setStackPtr_ram (s : State) (k : Stack) (w : Word) : (s.setStackPtr k w).ram = s.ram := by
  cases k <;> rfl
@[simp] theorem State.setStackPtr_rom (s : State) (k : Stack) (w : Word) : (s.setStackPtr k w).rom = s.rom := by
  cases k <;> rfl
@[simp] theorem State.setStackPtr_bankRam1 (s : State) (k : Stack) (w : Word) : (s.setStackPtr k w).bankRam1 = s.bankRam1 := by
  cases k <;> rfl
@[simp] theorem State.setStackPtr_bankRam2 (s : State) (k : Stack) (w : Word) : (s.setStackPtr k w).bankRam2 = s.bankRam2 := by
  cases k <;> rfl
@[simp] theorem State.setStackPtr_draws (s : State) (k : Stack) (w : Word) : (s.setStackPtr k w).draws = s.draws := by
  cases k <;> rfl
@[simp] theorem State.setStackPtr_defragIssued (s : State) (k : Stack) (w : Word) : (s.setStackPtr k w).defragIssued = s.defragIssued := by
  cases k <;> rfl

/-! ### `setBankRam` -/

@[simp] theorem State.setBankRam_cfg (s : State) (k : Window) (r : Memory) : (s.setBankRam k r).cfg = s.cfg := by
  cases k <;> rfl
@[simp] theorem State.setBankRam_a (s : State) (k : Window) (r : Memory) : (s.setBankRam k r).a = s.a := by
  cases k <;> rfl
@[simp] theorem State.setBankRam_b (s : State) (k : Window) (r : Memory) : (s.setBankRam k r).b = s.b := by
  cases k <;> rfl
@[simp] theorem State.setBankRam_x (s : State) (k : Window) (r : Memory) : (s.setBankRam k r).x = s.x := by
  cases k <;> rfl
@[simp] theorem State.setBankRam_y (s : State) (k : Window) (r : Memory) : (s.setBankRam k r).y = s.y := by
  cases k <;> rfl
@[simp] theorem State.setBankRam_u (s : State) (k : Window) (r : Memory) : (s.setBankRam k r).u = s.u := by
  cases k <;> rfl
@[simp] theorem State.setBankRam_sp (s : State) (k : Window) (r : Memory) : (s.setBankRam k r).sp = s.sp := by
  cases k <;> rfl
@[simp] theorem State.setBankRam_pc (s : State) (k : Window) (r : Memory) : (s.setBankRam k r).pc = s.pc := by
  cases k <;> rfl
@[simp] theorem State.setBankRam_dp (s : State) (k : Window) (r : Memory) : (s.setBankRam k r).dp = s.dp := by
  cases k <;> rfl
@[simp] theorem State.setBankRam_cc (s : State) (k : Window) (r : Memory) : (s.setBankRam k r).cc = s.cc := by
  cases k <;> rfl
@[simp] theorem State.setBankRam_nmiHist (s : State) (k : Window) (r : Memory) : (s.setBankRam k r).nmiHist = s.nmiHist := by
  cases k <;> rfl
@[simp] theorem State.setBankRam_nmiDisabled (s : State) (k : Window) (r : Memory) : (s.setBankRam k r).nmiDisabled = s.nmiDisabled := by
  cases k <;> rfl
@[simp] theorem State.setBankRam_wait (s : State) (k : Window) (r : Memory) : (s.setBankRam k r).wait = s.wait := by
  cases k <;> rfl
@[simp] theorem State.setBankRam_busy (s : State) (k : Window) (r : Memory) : (s.setBankRam k r).busy = s.busy := by
  cases k <;> rfl
@[simp] theorem State.setBankRam_fault (s : State) (k : Window) (r : Memory) : (s.setBankRam k r).fault = s.fault := by
  cases k <;> rfl
@[simp] theorem State.setBankRam_nmiN (s : State) (k : Window) (r : Memory) : (s.setBankRam k r).nmiN = s.nmiN := by
  cases k <;> rfl
@[simp] theorem State.setBankRam_firqN (s : State) (k : Window) (r : Memory) : (s.setBankRam k r).firqN = s.firqN := by
  cases k <;> rfl
@[simp] theorem State.setBankRam_irqN (s : State) (k : Window) (r : Memory) : (s.setBankRam k r).irqN = s.irqN := by
  cases k <;> rfl
@[simp] theorem State.setBankRam_mmu (s : State) (k : Window) (r : Memory) : (s.setBankRam k r).mmu = s.mmu := by
  cases k <;> rfl
@[simp] theorem State.setBankRam_ram (s : State) (k : Window) (r : Memory) : (s.setBankRam k r).ram = s.ram := by
  cases k <;> rfl
@[simp] theorem State.setBankRam_rom (s : State) (k : Window) (r : Memory) : (s.setBankRam k r).rom = s.rom := by
  cases k <;> rfl
@[simp] theorem State.setBankRam_draws (s : State) (k : Window) (r : Memory) : (s.setBankRam k r).draws = s.draws := by
  cases k <;> rfl
@[simp] theorem State.setBankRam_defragIssued (s : State) (k : Window) (r : Memory) : (s.setBankRam k r).defragIssued = s.defragIssued := by
  cases k <;> rfl

/-! ### `regWrite` -/

@[simp] theorem State.regWrite_cfg (s : State) (r : Reg) (w : Word) : (s.regWrite r w).cfg = s.cfg := by
  cases r <;> rfl
@[simp] theorem State.regWrite_nmiHist (s : State) (r : Reg) (w : Word) : (s.regWrite r w).nmiHist = s.nmiHist := by
  cases r <;> rfl
@[simp] theorem State.regWrite_wait (s : State) (r : Reg) (w : Word) : (s.regWrite r w).wait = s.wait := by
  cases r <;> rfl
@[simp] theorem State.regWrite_busy (s : State) (r : Reg) (w : Word) : (s.regWrite r w).busy = s.busy := by
  cases r <;> rfl
@[simp] theorem State.regWrite_fault (s : State) (r : Reg) (w : Word) : (s.regWrite r w).fault = s.fault := by
  cases r <;> rfl
@[simp] theorem State.regWrite_nmiN (s : State) (r : Reg) (w : Word) : (s.regWrite r w).nmiN = s.nmiN := by
  cases r <;> rfl
@[simp] theorem State.regWrite_firqN (s : State) (r : Reg) (w : Word) : (s.regWrite r w).firqN = s.firqN := by
  cases r <;> rfl
@[simp] theorem State.regWrite_irqN (s : State) (r : Reg) (w : Word) : (s.regWrite r w).irqN = s.irqN := by
  cases r <;> rfl
@[simp] theorem State.regWrite_mmu (s : State) (r : Reg) (w : Word) : (s.regWrite r w).mmu = s.mmu := by
  cases r <;> rfl
@[simp] theorem State.regWrite_ram (s : State) (r : Reg) (w : Word) : (s.regWrite r w).ram = s.ram := by
  cases r <;> rfl
@[simp] theorem State.regWrite_rom (s : State) (r : Reg) (w : Word) : (s.regWrite r w).rom = s.rom := by
  cases r <;> rfl
@[simp] theorem State.regWrite_bankRam1 (s : State) (r : Reg) (w : Word) : (s.regWrite r w).bankRam1 = s.bankRam1 := by
  cases r <;> rfl
@[simp] theorem State.regWrite_bankRam2 (s : State) (r : Reg) (w : Word) : (s.regWrite r w).bankRam2 = s.bankRam2 := by
  cases r <;> rfl
@[simp] theorem State.regWrite_draws (s : State) (r : Reg) (w : Word) : (s.regWrite r w).draws = s.draws := by
  cases r <;> rfl
@[simp] theorem State.regWrite_defragIssued (s : State) (r : Reg) (w : Word) : (s.regWrite r w).defragIssued = s.defragIssued := by
  cases r <;> rfl

/-! ### Reading back what was written -/

/-- Writing D and reading it back (10_state.md R21). -/
@[simp] theorem State.setD_d (s : State) (w : Word) : (s.setD w).d = w := joinBytes_hi_lo w

@[simp] theorem State.acc_setAcc (s : State) (r : Acc) (v : Byte) : (s.setAcc r v).acc r = v := by
  cases r <;> rfl

@[simp] theorem State.reg16_loadReg16 (s : State) (r : Reg16) (w : Word) : (s.loadReg16 r w).reg16 r = w := by
  cases r <;> first | rfl | exact joinBytes_hi_lo w

@[simp] theorem State.base_setBase (s : State) (r : IdxReg) (w : Word) : (s.setBase r w).base r = w := by
  cases r <;> rfl

@[simp] theorem State.stackPtr_setStackPtr (s : State) (k : Stack) (w : Word) : (s.setStackPtr k w).stackPtr k = w := by
  cases k <;> rfl

/-- The byte form of CC holds all eight bits (10_state.md R27). -/
@[simp] theorem CC.ofByte_toByte (f : CC) : CC.ofByte f.toByte = f := by
  rcases f with ⟨e, f, h, i, n, z, v, c⟩
  revert e f h i n z v c
  decide

@[simp] theorem CC.toByte_ofByte (w : Byte) : (CC.ofByte w).toByte = w := by
  revert w
  decide

/-- What the end of an instruction can be (49_mmu_commands.md R488). -/
theorem finish_eq_next {s : State} (h : s.defragIssued = false) : finish s = .next s := by
  simp [finish, h]

theorem finish_next_iff {s t : State} : finish s = .next t ↔ s.defragIssued = false ∧ t = s := by
  unfold finish
  cases h : s.defragIssued <;> simp [eq_comm]

/-- An instruction that ends in `finish` never faults. -/
theorem finish_ne_fault (s : State) (r : Fault) : finish s ≠ .fault r := by
  unfold finish
  split <;> simp

end Sys2Proof.Machine
end

