-- ==== Sys2Proof/Laws/Bus.lean ====
section
/-! SUPPORT. The laws of the bus: what a read and a write can change, what a read gives, that every access keeps the memories
canonical, and when a write issues DEFRAG. -/

namespace Sys2Proof.Machine

/-! ### The registers, which no bus access changes -/

/-- Two states that agree but for the MMU, RAM, the windows' backing RAM, the count of free values and the DEFRAG latch: what
a bus access can change (20_memory.md R81, R82). -/
structure State.SameRegs (s t : State) : Prop where
  cfg : t.cfg = s.cfg
  a : t.a = s.a
  b : t.b = s.b
  x : t.x = s.x
  y : t.y = s.y
  u : t.u = s.u
  sp : t.sp = s.sp
  pc : t.pc = s.pc
  dp : t.dp = s.dp
  cc : t.cc = s.cc
  nmiHist : t.nmiHist = s.nmiHist
  nmiDisabled : t.nmiDisabled = s.nmiDisabled
  wait : t.wait = s.wait
  busy : t.busy = s.busy
  fault : t.fault = s.fault
  nmiN : t.nmiN = s.nmiN
  firqN : t.firqN = s.firqN
  irqN : t.irqN = s.irqN
  rom : t.rom = s.rom

theorem State.SameRegs.refl (s : State) : s.SameRegs s := by
  constructor <;> rfl

theorem State.SameRegs.trans {s t u : State} (h : s.SameRegs t) (k : t.SameRegs u) : s.SameRegs u where
  cfg := k.cfg.trans h.cfg
  a := k.a.trans h.a
  b := k.b.trans h.b
  x := k.x.trans h.x
  y := k.y.trans h.y
  u := k.u.trans h.u
  sp := k.sp.trans h.sp
  pc := k.pc.trans h.pc
  dp := k.dp.trans h.dp
  cc := k.cc.trans h.cc
  nmiHist := k.nmiHist.trans h.nmiHist
  nmiDisabled := k.nmiDisabled.trans h.nmiDisabled
  wait := k.wait.trans h.wait
  busy := k.busy.trans h.busy
  fault := k.fault.trans h.fault
  nmiN := k.nmiN.trans h.nmiN
  firqN := k.firqN.trans h.firqN
  irqN := k.irqN.trans h.irqN
  rom := k.rom.trans h.rom

theorem bankRead_sameRegs (s : State) (k : Window) (o : Nat) : s.SameRegs (bankRead s k o).2 := by
  unfold bankRead
  split <;> constructor <;> rfl

theorem mmuRegRead_sameRegs (s : State) (o : Nat) : s.SameRegs (mmuRegRead s o).2 := by
  unfold mmuRegRead
  split
  · exact .refl s
  · split <;> constructor <;> rfl

/-- A bus read changes no register. -/
theorem busRead_sameRegs (s : State) (a : Addr) : s.SameRegs (busRead s a).2 := by
  unfold busRead
  split
  · exact .refl s
  · exact .refl s
  · exact .refl s
  · exact mmuRegRead_sameRegs s _
  · exact bankRead_sameRegs s _ _
  · constructor <;> rfl

theorem bankWrite_sameRegs (s : State) (k : Window) (o : Nat) (v : Byte) : s.SameRegs (bankWrite s k o v) := by
  unfold bankWrite
  split
  · cases k <;> constructor <;> rfl
  · split <;> constructor <;> rfl
  · constructor <;> rfl

theorem mmuRegWrite_sameRegs (s : State) (o : Nat) (v : Byte) : s.SameRegs (mmuRegWrite s o v) := by
  unfold mmuRegWrite
  split
  · exact .refl s
  · split <;> constructor <;> rfl

/-- A bus write changes no register. -/
theorem busWrite_sameRegs (s : State) (a : Addr) (v : Byte) : s.SameRegs (busWrite s a v) := by
  unfold busWrite
  split
  · exact .refl s
  · constructor <;> rfl
  · exact .refl s
  · exact mmuRegWrite_sameRegs s _ v
  · exact bankWrite_sameRegs s _ _ v
  · exact .refl s

theorem read16_sameRegs (s : State) (a : Addr) : s.SameRegs (read16 s a).2 :=
  (busRead_sameRegs s a).trans (busRead_sameRegs _ _)

theorem write16_sameRegs (s : State) (a : Addr) (w : Word) : s.SameRegs (write16 s a w) :=
  (busWrite_sameRegs s a _).trans (busWrite_sameRegs _ _ _)

@[simp] theorem busRead_cfg (s : State) (a : Addr) : (busRead s a).2.cfg = s.cfg := (busRead_sameRegs s a).cfg
@[simp] theorem busRead_a (s : State) (a : Addr) : (busRead s a).2.a = s.a := (busRead_sameRegs s a).a
@[simp] theorem busRead_b (s : State) (a : Addr) : (busRead s a).2.b = s.b := (busRead_sameRegs s a).b
@[simp] theorem busRead_x (s : State) (a : Addr) : (busRead s a).2.x = s.x := (busRead_sameRegs s a).x
@[simp] theorem busRead_y (s : State) (a : Addr) : (busRead s a).2.y = s.y := (busRead_sameRegs s a).y
@[simp] theorem busRead_u (s : State) (a : Addr) : (busRead s a).2.u = s.u := (busRead_sameRegs s a).u
@[simp] theorem busRead_sp (s : State) (a : Addr) : (busRead s a).2.sp = s.sp := (busRead_sameRegs s a).sp
@[simp] theorem busRead_pc (s : State) (a : Addr) : (busRead s a).2.pc = s.pc := (busRead_sameRegs s a).pc
@[simp] theorem busRead_dp (s : State) (a : Addr) : (busRead s a).2.dp = s.dp := (busRead_sameRegs s a).dp
@[simp] theorem busRead_cc (s : State) (a : Addr) : (busRead s a).2.cc = s.cc := (busRead_sameRegs s a).cc
@[simp] theorem busRead_nmiHist (s : State) (a : Addr) : (busRead s a).2.nmiHist = s.nmiHist := (busRead_sameRegs s a).nmiHist
@[simp] theorem busRead_nmiDisabled (s : State) (a : Addr) : (busRead s a).2.nmiDisabled = s.nmiDisabled := (busRead_sameRegs s a).nmiDisabled
@[simp] theorem busRead_wait (s : State) (a : Addr) : (busRead s a).2.wait = s.wait := (busRead_sameRegs s a).wait
@[simp] theorem busRead_busy (s : State) (a : Addr) : (busRead s a).2.busy = s.busy := (busRead_sameRegs s a).busy
@[simp] theorem busRead_fault (s : State) (a : Addr) : (busRead s a).2.fault = s.fault := (busRead_sameRegs s a).fault
@[simp] theorem busRead_nmiN (s : State) (a : Addr) : (busRead s a).2.nmiN = s.nmiN := (busRead_sameRegs s a).nmiN
@[simp] theorem busRead_firqN (s : State) (a : Addr) : (busRead s a).2.firqN = s.firqN := (busRead_sameRegs s a).firqN
@[simp] theorem busRead_irqN (s : State) (a : Addr) : (busRead s a).2.irqN = s.irqN := (busRead_sameRegs s a).irqN
@[simp] theorem busRead_rom (s : State) (a : Addr) : (busRead s a).2.rom = s.rom := (busRead_sameRegs s a).rom

@[simp] theorem busWrite_cfg (s : State) (a : Addr) (v : Byte) : (busWrite s a v).cfg = s.cfg := (busWrite_sameRegs s a v).cfg
@[simp] theorem busWrite_a (s : State) (a : Addr) (v : Byte) : (busWrite s a v).a = s.a := (busWrite_sameRegs s a v).a
@[simp] theorem busWrite_b (s : State) (a : Addr) (v : Byte) : (busWrite s a v).b = s.b := (busWrite_sameRegs s a v).b
@[simp] theorem busWrite_x (s : State) (a : Addr) (v : Byte) : (busWrite s a v).x = s.x := (busWrite_sameRegs s a v).x
@[simp] theorem busWrite_y (s : State) (a : Addr) (v : Byte) : (busWrite s a v).y = s.y := (busWrite_sameRegs s a v).y
@[simp] theorem busWrite_u (s : State) (a : Addr) (v : Byte) : (busWrite s a v).u = s.u := (busWrite_sameRegs s a v).u
@[simp] theorem busWrite_sp (s : State) (a : Addr) (v : Byte) : (busWrite s a v).sp = s.sp := (busWrite_sameRegs s a v).sp
@[simp] theorem busWrite_pc (s : State) (a : Addr) (v : Byte) : (busWrite s a v).pc = s.pc := (busWrite_sameRegs s a v).pc
@[simp] theorem busWrite_dp (s : State) (a : Addr) (v : Byte) : (busWrite s a v).dp = s.dp := (busWrite_sameRegs s a v).dp
@[simp] theorem busWrite_cc (s : State) (a : Addr) (v : Byte) : (busWrite s a v).cc = s.cc := (busWrite_sameRegs s a v).cc
@[simp] theorem busWrite_nmiHist (s : State) (a : Addr) (v : Byte) : (busWrite s a v).nmiHist = s.nmiHist := (busWrite_sameRegs s a v).nmiHist
@[simp] theorem busWrite_nmiDisabled (s : State) (a : Addr) (v : Byte) : (busWrite s a v).nmiDisabled = s.nmiDisabled := (busWrite_sameRegs s a v).nmiDisabled
@[simp] theorem busWrite_wait (s : State) (a : Addr) (v : Byte) : (busWrite s a v).wait = s.wait := (busWrite_sameRegs s a v).wait
@[simp] theorem busWrite_busy (s : State) (a : Addr) (v : Byte) : (busWrite s a v).busy = s.busy := (busWrite_sameRegs s a v).busy
@[simp] theorem busWrite_fault (s : State) (a : Addr) (v : Byte) : (busWrite s a v).fault = s.fault := (busWrite_sameRegs s a v).fault
@[simp] theorem busWrite_nmiN (s : State) (a : Addr) (v : Byte) : (busWrite s a v).nmiN = s.nmiN := (busWrite_sameRegs s a v).nmiN
@[simp] theorem busWrite_firqN (s : State) (a : Addr) (v : Byte) : (busWrite s a v).firqN = s.firqN := (busWrite_sameRegs s a v).firqN
@[simp] theorem busWrite_irqN (s : State) (a : Addr) (v : Byte) : (busWrite s a v).irqN = s.irqN := (busWrite_sameRegs s a v).irqN
@[simp] theorem busWrite_rom (s : State) (a : Addr) (v : Byte) : (busWrite s a v).rom = s.rom := (busWrite_sameRegs s a v).rom

@[simp] theorem read16_cfg (s : State) (a : Addr) : (read16 s a).2.cfg = s.cfg := (read16_sameRegs s a).cfg
@[simp] theorem read16_a (s : State) (a : Addr) : (read16 s a).2.a = s.a := (read16_sameRegs s a).a
@[simp] theorem read16_b (s : State) (a : Addr) : (read16 s a).2.b = s.b := (read16_sameRegs s a).b
@[simp] theorem read16_x (s : State) (a : Addr) : (read16 s a).2.x = s.x := (read16_sameRegs s a).x
@[simp] theorem read16_y (s : State) (a : Addr) : (read16 s a).2.y = s.y := (read16_sameRegs s a).y
@[simp] theorem read16_u (s : State) (a : Addr) : (read16 s a).2.u = s.u := (read16_sameRegs s a).u
@[simp] theorem read16_sp (s : State) (a : Addr) : (read16 s a).2.sp = s.sp := (read16_sameRegs s a).sp
@[simp] theorem read16_pc (s : State) (a : Addr) : (read16 s a).2.pc = s.pc := (read16_sameRegs s a).pc
@[simp] theorem read16_dp (s : State) (a : Addr) : (read16 s a).2.dp = s.dp := (read16_sameRegs s a).dp
@[simp] theorem read16_cc (s : State) (a : Addr) : (read16 s a).2.cc = s.cc := (read16_sameRegs s a).cc
@[simp] theorem read16_nmiHist (s : State) (a : Addr) : (read16 s a).2.nmiHist = s.nmiHist := (read16_sameRegs s a).nmiHist
@[simp] theorem read16_nmiDisabled (s : State) (a : Addr) : (read16 s a).2.nmiDisabled = s.nmiDisabled := (read16_sameRegs s a).nmiDisabled
@[simp] theorem read16_wait (s : State) (a : Addr) : (read16 s a).2.wait = s.wait := (read16_sameRegs s a).wait
@[simp] theorem read16_busy (s : State) (a : Addr) : (read16 s a).2.busy = s.busy := (read16_sameRegs s a).busy
@[simp] theorem read16_fault (s : State) (a : Addr) : (read16 s a).2.fault = s.fault := (read16_sameRegs s a).fault
@[simp] theorem read16_nmiN (s : State) (a : Addr) : (read16 s a).2.nmiN = s.nmiN := (read16_sameRegs s a).nmiN
@[simp] theorem read16_firqN (s : State) (a : Addr) : (read16 s a).2.firqN = s.firqN := (read16_sameRegs s a).firqN
@[simp] theorem read16_irqN (s : State) (a : Addr) : (read16 s a).2.irqN = s.irqN := (read16_sameRegs s a).irqN
@[simp] theorem read16_rom (s : State) (a : Addr) : (read16 s a).2.rom = s.rom := (read16_sameRegs s a).rom

@[simp] theorem write16_cfg (s : State) (a : Addr) (w : Word) : (write16 s a w).cfg = s.cfg := (write16_sameRegs s a w).cfg
@[simp] theorem write16_a (s : State) (a : Addr) (w : Word) : (write16 s a w).a = s.a := (write16_sameRegs s a w).a
@[simp] theorem write16_b (s : State) (a : Addr) (w : Word) : (write16 s a w).b = s.b := (write16_sameRegs s a w).b
@[simp] theorem write16_x (s : State) (a : Addr) (w : Word) : (write16 s a w).x = s.x := (write16_sameRegs s a w).x
@[simp] theorem write16_y (s : State) (a : Addr) (w : Word) : (write16 s a w).y = s.y := (write16_sameRegs s a w).y
@[simp] theorem write16_u (s : State) (a : Addr) (w : Word) : (write16 s a w).u = s.u := (write16_sameRegs s a w).u
@[simp] theorem write16_sp (s : State) (a : Addr) (w : Word) : (write16 s a w).sp = s.sp := (write16_sameRegs s a w).sp
@[simp] theorem write16_pc (s : State) (a : Addr) (w : Word) : (write16 s a w).pc = s.pc := (write16_sameRegs s a w).pc
@[simp] theorem write16_dp (s : State) (a : Addr) (w : Word) : (write16 s a w).dp = s.dp := (write16_sameRegs s a w).dp
@[simp] theorem write16_cc (s : State) (a : Addr) (w : Word) : (write16 s a w).cc = s.cc := (write16_sameRegs s a w).cc
@[simp] theorem write16_nmiHist (s : State) (a : Addr) (w : Word) : (write16 s a w).nmiHist = s.nmiHist := (write16_sameRegs s a w).nmiHist
@[simp] theorem write16_nmiDisabled (s : State) (a : Addr) (w : Word) : (write16 s a w).nmiDisabled = s.nmiDisabled := (write16_sameRegs s a w).nmiDisabled
@[simp] theorem write16_wait (s : State) (a : Addr) (w : Word) : (write16 s a w).wait = s.wait := (write16_sameRegs s a w).wait
@[simp] theorem write16_busy (s : State) (a : Addr) (w : Word) : (write16 s a w).busy = s.busy := (write16_sameRegs s a w).busy
@[simp] theorem write16_fault (s : State) (a : Addr) (w : Word) : (write16 s a w).fault = s.fault := (write16_sameRegs s a w).fault
@[simp] theorem write16_nmiN (s : State) (a : Addr) (w : Word) : (write16 s a w).nmiN = s.nmiN := (write16_sameRegs s a w).nmiN
@[simp] theorem write16_firqN (s : State) (a : Addr) (w : Word) : (write16 s a w).firqN = s.firqN := (write16_sameRegs s a w).firqN
@[simp] theorem write16_irqN (s : State) (a : Addr) (w : Word) : (write16 s a w).irqN = s.irqN := (write16_sameRegs s a w).irqN
@[simp] theorem write16_rom (s : State) (a : Addr) (w : Word) : (write16 s a w).rom = s.rom := (write16_sameRegs s a w).rom

/-! ### What a read leaves of memory, and what it gives -/

/-- A read changes RAM and the windows' backing RAM in no case, and the MMU only where a window access fails
(20_memory.md R91, R95). -/
theorem busRead_memory (s : State) (a : Addr) :
    (busRead s a).2.ram = s.ram ∧ (busRead s a).2.bankRam1 = s.bankRam1 ∧ (busRead s a).2.bankRam2 = s.bankRam2 ∧
      (busRead s a).2.defragIssued = s.defragIssued ∧
      ((busRead s a).2.mmu = s.mmu ∨ (busRead s a).2.mmu = s.mmu.fail s.cfg.errors.bank) := by
  unfold busRead mmuRegRead bankRead
  split
  · simp
  · simp
  · simp
  · split
    · simp
    · split <;> simp
  · split <;> simp
  · simp

@[simp] theorem busRead_ram (s : State) (a : Addr) : (busRead s a).2.ram = s.ram := (busRead_memory s a).1
@[simp] theorem busRead_bankRam1 (s : State) (a : Addr) : (busRead s a).2.bankRam1 = s.bankRam1 := (busRead_memory s a).2.1
@[simp] theorem busRead_bankRam2 (s : State) (a : Addr) : (busRead s a).2.bankRam2 = s.bankRam2 := (busRead_memory s a).2.2.1
@[simp] theorem busRead_defragIssued (s : State) (a : Addr) : (busRead s a).2.defragIssued = s.defragIssued :=
  (busRead_memory s a).2.2.2.1
@[simp] theorem read16_ram (s : State) (a : Addr) : (read16 s a).2.ram = s.ram := by simp [read16]
@[simp] theorem read16_bankRam1 (s : State) (a : Addr) : (read16 s a).2.bankRam1 = s.bankRam1 := by simp [read16]
@[simp] theorem read16_bankRam2 (s : State) (a : Addr) : (read16 s a).2.bankRam2 = s.bankRam2 := by simp [read16]
@[simp] theorem read16_defragIssued (s : State) (a : Addr) : (read16 s a).2.defragIssued = s.defragIssued := by
  simp [read16]

/-- Where the byte of an address is defined, a read gives it and changes nothing (20_memory.md R91). -/
theorem busRead_of_peek {s : State} {a : Addr} {v : Byte} (h : s.peek a = some v) : busRead s a = (v, s) := by
  unfold State.peek at h
  unfold busRead
  cases hl : s.locate a with
  | none => simp_all
  | some p =>
    obtain ⟨k, o⟩ := p
    rw [hl] at h
    cases k with
    | ram => simpa using h
    | rom => simpa using h
    | external => simp at h
    | mmuReg =>
      dsimp only at h ⊢
      unfold mmuRegRead
      cases hr : mmuRegAt s.cfg o with
      | none => simpa [hr] using h
      | some q => simp only [hr] at h; simp only [h]
    | bankWin k =>
      dsimp only at h ⊢
      unfold bankRead
      cases hb : bankLocate s.mmu k o with
      | ramBacked => simpa [hb] using h
      | node n => simpa [hb] using h
      | bankError => simp [hb] at h

theorem read16_of_peek {s : State} {a : Addr} {h l : Byte} (hh : s.peek a = some h) (hl : s.peek (a + 1) = some l) :
    read16 s a = (joinBytes h l, s) := by
  unfold read16
  simp only [busRead_of_peek hh]
  rw [busRead_of_peek hl]

/-! ### DEFRAG -/

/-- A write sets the DEFRAG latch exactly where it issues DEFRAG (49_mmu_commands.md R488). -/
theorem busWrite_defragIssued (s : State) (a : Addr) (v : Byte) :
    (busWrite s a v).defragIssued = (s.defragIssued || s.issuesDefrag a v) := by
  unfold busWrite State.issuesDefrag
  split
  · simp_all
  · simp_all
  · simp_all
  · rename_i o hl
    unfold mmuRegWrite
    split <;> rename_i hr
    · simp [hl, hr]
    · rename_i r j
      by_cases hc : r = .command
      · subst hc
        simp [hl, hr, mmuDispatch]
      · rw [if_neg hc]
        simp only [hl, hr]
        cases r <;> simp_all
  · rename_i k o hl
    simp only [hl, Bool.or_false]
    unfold bankWrite
    split
    · cases k <;> rfl
    · split <;> rfl
    · rfl
  · simp_all

theorem issuesDefrag_congr {s t : State} (h : t.cfg = s.cfg) (a : Addr) (v : Byte) :
    t.issuesDefrag a v = s.issuesDefrag a v := by
  simp [State.issuesDefrag, State.locate, h]

theorem write16_defragIssued (s : State) (a : Addr) (w : Word) :
    (write16 s a w).defragIssued =
      (s.defragIssued || s.issuesDefrag a (hiByte w) || s.issuesDefrag (a + 1) (loByte w)) := by
  simp only [write16, busWrite_defragIssued]
  rw [issuesDefrag_congr (s := s) (t := busWrite s a (hiByte w)) (by simp)]

/-! ### RAM -/

theorem locate_congr {s t : State} (h : t.cfg = s.cfg) (a : Addr) : t.locate a = s.locate a := by
  simp [State.locate, h]

/-- A write to RAM is a write of that byte alone. -/
theorem busWrite_ram_region {s : State} {a : Addr} {o : Nat} (h : s.locate a = some (.ram, o)) (v : Byte) :
    busWrite s a v = { s with ram := Memory.write s.ram a.toNat v } := by
  simp [busWrite, h]

/-- After a write to RAM the byte reads back, and every other address reads as before (20_memory.md R83, R100). -/
theorem peek_busWrite_ram {s : State} {a : Addr} {o : Nat} (h : s.locate a = some (.ram, o)) (v : Byte) (b : Addr) :
    (busWrite s a v).peek b = if b = a then some v else s.peek b := by
  rw [busWrite_ram_region h]
  have hc : (∀ b, State.locate { s with ram := Memory.write s.ram a.toNat v } b = s.locate b) := fun _ => rfl
  by_cases e : b = a
  · subst e
    simp [State.peek, hc, h]
  · have e' : b.toNat ≠ a.toNat := fun x => e (BitVec.eq_of_toNat_eq x)
    simp only [State.peek, hc, if_neg e, Memory.read_write_other s.ram v e']
    rfl

/-! ### The canonical forms -/

/-- What every access keeps: a well-formed configuration, canonical memories, and the MMU's own (10_state.md R46, R49 (g)). -/
structure State.Kept (s : State) : Prop where
  cfg : s.cfg.wf = true
  ram : Memory.wf 65536 s.ram = true
  rom : Memory.wf 65536 s.rom = true
  bankRam1 : Memory.wf windowBytes s.bankRam1 = true
  bankRam2 : Memory.wf windowBytes s.bankRam2 = true
  mmu : s.mmu.Kept

theorem regionAt_mem {m : List Region} {a : Nat} {k : Device} {o : Nat} (h : regionAt m a = some (k, o)) :
    ∃ r ∈ m, r.kind = k ∧ o < r.size := by
  induction m generalizing a with
  | nil => simp [regionAt] at h
  | cons r m ih =>
    simp only [regionAt] at h
    split at h
    · rename_i hlt
      simp only [Option.some.injEq, Prod.mk.injEq] at h
      exact ⟨r, by simp, h.1, h.2 ▸ hlt⟩
    · obtain ⟨q, hq, hk, ho⟩ := ih h
      exact ⟨q, by simp [hq], hk, ho⟩

/-- An offset in a window is below 8192 (20_memory.md R84). -/
theorem State.Kept.window_offset {s : State} (h : s.Kept) {a : Addr} {k : Window} {o : Nat}
    (hl : s.locate a = some (.bankWin k, o)) : o < windowBytes := by
  obtain ⟨r, hr, hk, ho⟩ := regionAt_mem hl
  have hc := h.cfg
  simp only [Config.wf, Config.tablesOk, mmuRegionsOk, Bool.and_eq_true, beq_iff_eq] at hc
  obtain ⟨-, ⟨⟨⟨⟨⟨⟨-, h1⟩, h2⟩, -⟩, -⟩, -⟩, -⟩, -⟩ := hc
  have hm : r ∈ regionsOf s.cfg.memMap (.bankWin k) := by simp [regionsOf, hr, hk]
  cases k
  · rw [h1] at hm
    simp only [List.mem_singleton] at hm
    subst hm
    exact ho
  · rw [h2] at hm
    simp only [List.mem_singleton] at hm
    subst hm
    exact ho

theorem mmuRegAt_lt {c : Config} {o : Nat} {r : MmuReg} {j : Nat} (h : mmuRegAt c o = some (r, j)) : j < r.size := by
  unfold mmuRegAt at h
  cases hf : c.mmuRegs.find? fun p => decide (p.1 ≤ o) && decide (o < p.1 + p.2.size) with
  | none => simp [hf] at h
  | some p =>
    have := List.find?_some hf
    simp only [hf, Option.map_some, Option.some.injEq, Prod.mk.injEq] at h
    simp only [Bool.and_eq_true, decide_eq_true_eq] at this
    rw [← h.1, ← h.2]
    omega

/-- A state with the same memories, or whose MMU has only another `error` and `command`, keeps them. -/
theorem State.Kept.of_eq {s t : State} (h : s.Kept) (hc : t.cfg = s.cfg) (h1 : t.ram = s.ram) (h2 : t.rom = s.rom)
    (h3 : t.bankRam1 = s.bankRam1) (h4 : t.bankRam2 = s.bankRam2) (hm : t.mmu.Kept) : t.Kept :=
  ⟨hc ▸ h.cfg, h1 ▸ h.ram, h2 ▸ h.rom, h3 ▸ h.bankRam1, h4 ▸ h.bankRam2, hm⟩

theorem Mmu.Kept.fail {m : Mmu} (h : m.Kept) (c : Byte) : (m.fail c).Kept := h.of_eq rfl rfl rfl

/-- Every bus read keeps the canonical forms. -/
theorem State.Kept.busRead {s : State} (h : s.Kept) (a : Addr) : (busRead s a).2.Kept := by
  refine h.of_eq (by simp) (by simp) (by simp) (by simp) (by simp) ?_
  rcases (busRead_memory s a).2.2.2.2 with e | e <;> rw [e]
  · exact h.mmu
  · exact h.mmu.fail _

theorem Mmu.Kept.setRegByte {m : Mmu} (h : m.Kept) {c : Config} {o : Nat} {r : MmuReg} {j : Nat}
    (hr : mmuRegAt c o = some (r, j)) (v : Byte) : (m.setRegByte r j v).Kept := by
  have hj := mmuRegAt_lt hr
  cases r <;> first | exact h | exact h.of_eq rfl rfl rfl | skip
  show (if m.payloadWritable m.rawIndex then m.setData m.rawIndex j v else m).Kept
  split
  · exact h.setData _ hj v
  · exact h

/-- Every bus write keeps the canonical forms. -/
theorem State.Kept.busWrite {s : State} (h : s.Kept) (a : Addr) (v : Byte) : (busWrite s a v).Kept := by
  unfold Machine.busWrite
  split
  · exact h
  · exact ⟨h.cfg, Memory.wf_write v h.ram a.isLt, h.rom, h.bankRam1, h.bankRam2, h.mmu⟩
  · exact h
  · unfold mmuRegWrite
    split
    · exact h
    · rename_i hr
      split
      · exact h.of_eq rfl rfl rfl rfl rfl (h.mmu.dispatch v)
      · exact h.of_eq rfl rfl rfl rfl rfl (h.mmu.setRegByte hr v)
  · rename_i k o hl
    have ho := h.window_offset hl
    unfold bankWrite
    split
    · cases k
      · exact ⟨h.cfg, h.ram, h.rom, Memory.wf_write v h.bankRam1 ho, h.bankRam2, h.mmu⟩
      · exact ⟨h.cfg, h.ram, h.rom, h.bankRam1, Memory.wf_write v h.bankRam2 ho, h.mmu⟩
    · split
      · exact h.of_eq rfl rfl rfl rfl rfl (h.mmu.setData _ (Nat.mod_lt _ (by decide)) v)
      · exact h
    · exact h.of_eq rfl rfl rfl rfl rfl (h.mmu.fail _)
  · exact h

/-- Writes by the bypass path keep the canonical forms. -/
theorem State.Kept.hostWrite {s : State} (h : s.Kept) (a : Addr) (v : Byte) : (s.hostWrite a v).Kept := by
  unfold State.hostWrite
  split
  · exact ⟨h.cfg, Memory.wf_write v h.ram a.isLt, h.rom, h.bankRam1, h.bankRam2, h.mmu⟩
  · rename_i k o hl
    have ho := h.window_offset hl
    cases k
    · exact ⟨h.cfg, h.ram, h.rom, Memory.wf_write v h.bankRam1 ho, h.bankRam2, h.mmu⟩
    · exact ⟨h.cfg, h.ram, h.rom, h.bankRam1, Memory.wf_write v h.bankRam2 ho, h.mmu⟩
  · exact h

/-- Writes to a ROM by its entry point keep the canonical forms. -/
theorem State.Kept.hostWriteRom {s : State} (h : s.Kept) (a : Addr) (v : Byte) : (s.hostWriteRom a v).Kept := by
  unfold State.hostWriteRom
  split
  · exact ⟨h.cfg, h.ram, Memory.wf_write v h.rom a.isLt, h.bankRam1, h.bankRam2, h.mmu⟩
  · exact h

/-- The loader keeps the canonical forms. -/
theorem State.Kept.hostLoadByte {s : State} (h : s.Kept) (a : Addr) (v : Byte) : (s.hostLoadByte a v).Kept := by
  unfold State.hostLoadByte
  split
  · exact h.hostWriteRom a v
  · exact h.hostWrite a v

/-- The bypass path leaves every ROM as it is (20_memory.md R99). -/
theorem State.hostWrite_rom (s : State) (a : Addr) (v : Byte) : (s.hostWrite a v).rom = s.rom := by
  unfold State.hostWrite
  split
  · rfl
  · rename_i k o _
    cases k <;> rfl
  · rfl

/-- What the loader puts at an address is what the host reads there, wherever the host reads anything
(20_memory.md R99). -/
theorem State.hostRead_hostLoadByte (s : State) (a : Addr) (v : Byte) (h : s.hostRead a ≠ none) :
    (s.hostLoadByte a v).hostRead a = some v := by
  unfold State.hostRead at h
  split at h
  · rename_i o hl
    have hw : s.hostLoadByte a v = { s with ram := Memory.write s.ram a.toNat v } := by
      simp [State.hostLoadByte, State.hostWrite, hl]
    have hl' : (s.hostLoadByte a v).locate a = some (.ram, o) := by rw [hw]; exact hl
    simp only [State.hostRead, hl']
    rw [hw]
    simp
  · rename_i o hl
    have hw : s.hostLoadByte a v = { s with rom := Memory.write s.rom a.toNat v } := by
      simp [State.hostLoadByte, State.hostWriteRom, hl]
    have hl' : (s.hostLoadByte a v).locate a = some (.rom, o) := by rw [hw]; exact hl
    simp only [State.hostRead, hl']
    rw [hw]
    simp
  · rename_i k o hl
    have hw : s.hostLoadByte a v = s.setBankRam k (Memory.write (s.bankRam k) o v) := by
      simp [State.hostLoadByte, State.hostWrite, hl]
    have hl' : (s.hostLoadByte a v).locate a = some (.bankWin k, o) := by rw [hw]; cases k <;> exact hl
    simp only [State.hostRead, hl']
    rw [hw]
    cases k <;> simp [State.setBankRam, State.bankRam]
  · exact absurd rfl h

theorem State.Kept.read16 {s : State} (h : s.Kept) (a : Addr) : (read16 s a).2.Kept := (h.busRead a).busRead _

theorem State.Kept.write16 {s : State} (h : s.Kept) (a : Addr) (w : Word) : (write16 s a w).Kept :=
  (h.busWrite a _).busWrite _ _

end Sys2Proof.Machine
end

