-- ==== Sys2Proof/Laws/Ops.lean ====
section
/-! SUPPORT. The laws of the stacks, of the entry into an interrupt, and of the operand forms: which fields each can change,
and that each keeps the canonical forms. -/

namespace Sys2Proof.Machine

/-! ### Stack primitives (45_stack_system.md R420) -/

@[simp] theorem push8_cfg (k : Stack) (v : Byte) (s : State) : (push8 k v s).cfg = s.cfg := by
  cases k <;> simp [push8]
@[simp] theorem push8_a (k : Stack) (v : Byte) (s : State) : (push8 k v s).a = s.a := by
  cases k <;> simp [push8]
@[simp] theorem push8_b (k : Stack) (v : Byte) (s : State) : (push8 k v s).b = s.b := by
  cases k <;> simp [push8]
@[simp] theorem push8_x (k : Stack) (v : Byte) (s : State) : (push8 k v s).x = s.x := by
  cases k <;> simp [push8]
@[simp] theorem push8_y (k : Stack) (v : Byte) (s : State) : (push8 k v s).y = s.y := by
  cases k <;> simp [push8]
@[simp] theorem push8_pc (k : Stack) (v : Byte) (s : State) : (push8 k v s).pc = s.pc := by
  cases k <;> simp [push8]
@[simp] theorem push8_dp (k : Stack) (v : Byte) (s : State) : (push8 k v s).dp = s.dp := by
  cases k <;> simp [push8]
@[simp] theorem push8_cc (k : Stack) (v : Byte) (s : State) : (push8 k v s).cc = s.cc := by
  cases k <;> simp [push8]
@[simp] theorem push8_nmiHist (k : Stack) (v : Byte) (s : State) : (push8 k v s).nmiHist = s.nmiHist := by
  cases k <;> simp [push8]
@[simp] theorem push8_nmiDisabled (k : Stack) (v : Byte) (s : State) : (push8 k v s).nmiDisabled = s.nmiDisabled := by
  cases k <;> simp [push8]
@[simp] theorem push8_wait (k : Stack) (v : Byte) (s : State) : (push8 k v s).wait = s.wait := by
  cases k <;> simp [push8]
@[simp] theorem push8_busy (k : Stack) (v : Byte) (s : State) : (push8 k v s).busy = s.busy := by
  cases k <;> simp [push8]
@[simp] theorem push8_fault (k : Stack) (v : Byte) (s : State) : (push8 k v s).fault = s.fault := by
  cases k <;> simp [push8]
@[simp] theorem push8_nmiN (k : Stack) (v : Byte) (s : State) : (push8 k v s).nmiN = s.nmiN := by
  cases k <;> simp [push8]
@[simp] theorem push8_firqN (k : Stack) (v : Byte) (s : State) : (push8 k v s).firqN = s.firqN := by
  cases k <;> simp [push8]
@[simp] theorem push8_irqN (k : Stack) (v : Byte) (s : State) : (push8 k v s).irqN = s.irqN := by
  cases k <;> simp [push8]
@[simp] theorem push8_rom (k : Stack) (v : Byte) (s : State) : (push8 k v s).rom = s.rom := by
  cases k <;> simp [push8]

/-- A push moves its stack pointer down by one and leaves the other (R420). -/
@[simp] theorem push8_stackPtr (k : Stack) (v : Byte) (s : State) : (push8 k v s).stackPtr k = s.stackPtr k - 1 := by
  cases k <;> simp [push8, State.stackPtr, State.setStackPtr]

@[simp] theorem push8_s_u (v : Byte) (s : State) : (push8 .s v s).u = s.u := by simp [push8, State.setStackPtr]
@[simp] theorem push8_u_sp (v : Byte) (s : State) : (push8 .u v s).sp = s.sp := by simp [push8, State.setStackPtr]

@[simp] theorem push16_cfg (k : Stack) (w : Word) (s : State) : (push16 k w s).cfg = s.cfg := by
  simp [push16]
@[simp] theorem push16_a (k : Stack) (w : Word) (s : State) : (push16 k w s).a = s.a := by
  simp [push16]
@[simp] theorem push16_b (k : Stack) (w : Word) (s : State) : (push16 k w s).b = s.b := by
  simp [push16]
@[simp] theorem push16_x (k : Stack) (w : Word) (s : State) : (push16 k w s).x = s.x := by
  simp [push16]
@[simp] theorem push16_y (k : Stack) (w : Word) (s : State) : (push16 k w s).y = s.y := by
  simp [push16]
@[simp] theorem push16_pc (k : Stack) (w : Word) (s : State) : (push16 k w s).pc = s.pc := by
  simp [push16]
@[simp] theorem push16_dp (k : Stack) (w : Word) (s : State) : (push16 k w s).dp = s.dp := by
  simp [push16]
@[simp] theorem push16_cc (k : Stack) (w : Word) (s : State) : (push16 k w s).cc = s.cc := by
  simp [push16]
@[simp] theorem push16_nmiHist (k : Stack) (w : Word) (s : State) : (push16 k w s).nmiHist = s.nmiHist := by
  simp [push16]
@[simp] theorem push16_nmiDisabled (k : Stack) (w : Word) (s : State) : (push16 k w s).nmiDisabled = s.nmiDisabled := by
  simp [push16]
@[simp] theorem push16_wait (k : Stack) (w : Word) (s : State) : (push16 k w s).wait = s.wait := by
  simp [push16]
@[simp] theorem push16_busy (k : Stack) (w : Word) (s : State) : (push16 k w s).busy = s.busy := by
  simp [push16]
@[simp] theorem push16_fault (k : Stack) (w : Word) (s : State) : (push16 k w s).fault = s.fault := by
  simp [push16]
@[simp] theorem push16_nmiN (k : Stack) (w : Word) (s : State) : (push16 k w s).nmiN = s.nmiN := by
  simp [push16]
@[simp] theorem push16_firqN (k : Stack) (w : Word) (s : State) : (push16 k w s).firqN = s.firqN := by
  simp [push16]
@[simp] theorem push16_irqN (k : Stack) (w : Word) (s : State) : (push16 k w s).irqN = s.irqN := by
  simp [push16]
@[simp] theorem push16_rom (k : Stack) (w : Word) (s : State) : (push16 k w s).rom = s.rom := by
  simp [push16]

@[simp] theorem push16_stackPtr (k : Stack) (w : Word) (s : State) : (push16 k w s).stackPtr k = s.stackPtr k - 2 := by
  simp only [push16, push8_stackPtr]
  ring

@[simp] theorem push16_s_u (w : Word) (s : State) : (push16 .s w s).u = s.u := by simp [push16]
@[simp] theorem push16_u_sp (w : Word) (s : State) : (push16 .u w s).sp = s.sp := by simp [push16]

@[simp] theorem pull8_cfg (k : Stack) (s : State) : ((pull8 k s).2).cfg = s.cfg := by
  cases k <;> simp [pull8]
@[simp] theorem pull8_a (k : Stack) (s : State) : ((pull8 k s).2).a = s.a := by
  cases k <;> simp [pull8]
@[simp] theorem pull8_b (k : Stack) (s : State) : ((pull8 k s).2).b = s.b := by
  cases k <;> simp [pull8]
@[simp] theorem pull8_x (k : Stack) (s : State) : ((pull8 k s).2).x = s.x := by
  cases k <;> simp [pull8]
@[simp] theorem pull8_y (k : Stack) (s : State) : ((pull8 k s).2).y = s.y := by
  cases k <;> simp [pull8]
@[simp] theorem pull8_pc (k : Stack) (s : State) : ((pull8 k s).2).pc = s.pc := by
  cases k <;> simp [pull8]
@[simp] theorem pull8_dp (k : Stack) (s : State) : ((pull8 k s).2).dp = s.dp := by
  cases k <;> simp [pull8]
@[simp] theorem pull8_cc (k : Stack) (s : State) : ((pull8 k s).2).cc = s.cc := by
  cases k <;> simp [pull8]
@[simp] theorem pull8_nmiHist (k : Stack) (s : State) : ((pull8 k s).2).nmiHist = s.nmiHist := by
  cases k <;> simp [pull8]
@[simp] theorem pull8_nmiDisabled (k : Stack) (s : State) : ((pull8 k s).2).nmiDisabled = s.nmiDisabled := by
  cases k <;> simp [pull8]
@[simp] theorem pull8_wait (k : Stack) (s : State) : ((pull8 k s).2).wait = s.wait := by
  cases k <;> simp [pull8]
@[simp] theorem pull8_busy (k : Stack) (s : State) : ((pull8 k s).2).busy = s.busy := by
  cases k <;> simp [pull8]
@[simp] theorem pull8_fault (k : Stack) (s : State) : ((pull8 k s).2).fault = s.fault := by
  cases k <;> simp [pull8]
@[simp] theorem pull8_nmiN (k : Stack) (s : State) : ((pull8 k s).2).nmiN = s.nmiN := by
  cases k <;> simp [pull8]
@[simp] theorem pull8_firqN (k : Stack) (s : State) : ((pull8 k s).2).firqN = s.firqN := by
  cases k <;> simp [pull8]
@[simp] theorem pull8_irqN (k : Stack) (s : State) : ((pull8 k s).2).irqN = s.irqN := by
  cases k <;> simp [pull8]
@[simp] theorem pull8_ram (k : Stack) (s : State) : ((pull8 k s).2).ram = s.ram := by
  cases k <;> simp [pull8]
@[simp] theorem pull8_rom (k : Stack) (s : State) : ((pull8 k s).2).rom = s.rom := by
  cases k <;> simp [pull8]
@[simp] theorem pull8_bankRam1 (k : Stack) (s : State) : ((pull8 k s).2).bankRam1 = s.bankRam1 := by
  cases k <;> simp [pull8]
@[simp] theorem pull8_bankRam2 (k : Stack) (s : State) : ((pull8 k s).2).bankRam2 = s.bankRam2 := by
  cases k <;> simp [pull8]
@[simp] theorem pull8_defragIssued (k : Stack) (s : State) : ((pull8 k s).2).defragIssued = s.defragIssued := by
  cases k <;> simp [pull8]

@[simp] theorem pull8_stackPtr (k : Stack) (s : State) : (pull8 k s).2.stackPtr k = s.stackPtr k + 1 := by
  simp [pull8]

@[simp] theorem pull8_s_u (s : State) : (pull8 .s s).2.u = s.u := by simp [pull8, State.setStackPtr]
@[simp] theorem pull8_u_sp (s : State) : (pull8 .u s).2.sp = s.sp := by simp [pull8, State.setStackPtr]

@[simp] theorem pull16_cfg (k : Stack) (s : State) : ((pull16 k s).2).cfg = s.cfg := by
  simp [pull16]
@[simp] theorem pull16_a (k : Stack) (s : State) : ((pull16 k s).2).a = s.a := by
  simp [pull16]
@[simp] theorem pull16_b (k : Stack) (s : State) : ((pull16 k s).2).b = s.b := by
  simp [pull16]
@[simp] theorem pull16_x (k : Stack) (s : State) : ((pull16 k s).2).x = s.x := by
  simp [pull16]
@[simp] theorem pull16_y (k : Stack) (s : State) : ((pull16 k s).2).y = s.y := by
  simp [pull16]
@[simp] theorem pull16_pc (k : Stack) (s : State) : ((pull16 k s).2).pc = s.pc := by
  simp [pull16]
@[simp] theorem pull16_dp (k : Stack) (s : State) : ((pull16 k s).2).dp = s.dp := by
  simp [pull16]
@[simp] theorem pull16_cc (k : Stack) (s : State) : ((pull16 k s).2).cc = s.cc := by
  simp [pull16]
@[simp] theorem pull16_nmiHist (k : Stack) (s : State) : ((pull16 k s).2).nmiHist = s.nmiHist := by
  simp [pull16]
@[simp] theorem pull16_nmiDisabled (k : Stack) (s : State) : ((pull16 k s).2).nmiDisabled = s.nmiDisabled := by
  simp [pull16]
@[simp] theorem pull16_wait (k : Stack) (s : State) : ((pull16 k s).2).wait = s.wait := by
  simp [pull16]
@[simp] theorem pull16_busy (k : Stack) (s : State) : ((pull16 k s).2).busy = s.busy := by
  simp [pull16]
@[simp] theorem pull16_fault (k : Stack) (s : State) : ((pull16 k s).2).fault = s.fault := by
  simp [pull16]
@[simp] theorem pull16_nmiN (k : Stack) (s : State) : ((pull16 k s).2).nmiN = s.nmiN := by
  simp [pull16]
@[simp] theorem pull16_firqN (k : Stack) (s : State) : ((pull16 k s).2).firqN = s.firqN := by
  simp [pull16]
@[simp] theorem pull16_irqN (k : Stack) (s : State) : ((pull16 k s).2).irqN = s.irqN := by
  simp [pull16]
@[simp] theorem pull16_ram (k : Stack) (s : State) : ((pull16 k s).2).ram = s.ram := by
  simp [pull16]
@[simp] theorem pull16_rom (k : Stack) (s : State) : ((pull16 k s).2).rom = s.rom := by
  simp [pull16]
@[simp] theorem pull16_bankRam1 (k : Stack) (s : State) : ((pull16 k s).2).bankRam1 = s.bankRam1 := by
  simp [pull16]
@[simp] theorem pull16_bankRam2 (k : Stack) (s : State) : ((pull16 k s).2).bankRam2 = s.bankRam2 := by
  simp [pull16]
@[simp] theorem pull16_defragIssued (k : Stack) (s : State) : ((pull16 k s).2).defragIssued = s.defragIssued := by
  simp [pull16]

@[simp] theorem pull16_stackPtr (k : Stack) (s : State) : (pull16 k s).2.stackPtr k = s.stackPtr k + 2 := by
  simp only [pull16, pull8_stackPtr]
  ring

@[simp] theorem pull16_s_u (s : State) : (pull16 .s s).2.u = s.u := by simp [pull16]
@[simp] theorem pull16_u_sp (s : State) : (pull16 .u s).2.sp = s.sp := by simp [pull16]

/-! ### Pushing registers (R421, R423) -/

@[simp] theorem pushItem_cfg (k : Stack) (i : StackItem) (s : State) : (pushItem k i s).cfg = s.cfg := by
  cases i <;> cases k <;> simp [pushItem]
@[simp] theorem pushItem_a (k : Stack) (i : StackItem) (s : State) : (pushItem k i s).a = s.a := by
  cases i <;> cases k <;> simp [pushItem]
@[simp] theorem pushItem_b (k : Stack) (i : StackItem) (s : State) : (pushItem k i s).b = s.b := by
  cases i <;> cases k <;> simp [pushItem]
@[simp] theorem pushItem_x (k : Stack) (i : StackItem) (s : State) : (pushItem k i s).x = s.x := by
  cases i <;> cases k <;> simp [pushItem]
@[simp] theorem pushItem_y (k : Stack) (i : StackItem) (s : State) : (pushItem k i s).y = s.y := by
  cases i <;> cases k <;> simp [pushItem]
@[simp] theorem pushItem_pc (k : Stack) (i : StackItem) (s : State) : (pushItem k i s).pc = s.pc := by
  cases i <;> cases k <;> simp [pushItem]
@[simp] theorem pushItem_dp (k : Stack) (i : StackItem) (s : State) : (pushItem k i s).dp = s.dp := by
  cases i <;> cases k <;> simp [pushItem]
@[simp] theorem pushItem_cc (k : Stack) (i : StackItem) (s : State) : (pushItem k i s).cc = s.cc := by
  cases i <;> cases k <;> simp [pushItem]
@[simp] theorem pushItem_nmiHist (k : Stack) (i : StackItem) (s : State) : (pushItem k i s).nmiHist = s.nmiHist := by
  cases i <;> cases k <;> simp [pushItem]
@[simp] theorem pushItem_nmiDisabled (k : Stack) (i : StackItem) (s : State) : (pushItem k i s).nmiDisabled = s.nmiDisabled := by
  cases i <;> cases k <;> simp [pushItem]
@[simp] theorem pushItem_wait (k : Stack) (i : StackItem) (s : State) : (pushItem k i s).wait = s.wait := by
  cases i <;> cases k <;> simp [pushItem]
@[simp] theorem pushItem_busy (k : Stack) (i : StackItem) (s : State) : (pushItem k i s).busy = s.busy := by
  cases i <;> cases k <;> simp [pushItem]
@[simp] theorem pushItem_fault (k : Stack) (i : StackItem) (s : State) : (pushItem k i s).fault = s.fault := by
  cases i <;> cases k <;> simp [pushItem]
@[simp] theorem pushItem_nmiN (k : Stack) (i : StackItem) (s : State) : (pushItem k i s).nmiN = s.nmiN := by
  cases i <;> cases k <;> simp [pushItem]
@[simp] theorem pushItem_firqN (k : Stack) (i : StackItem) (s : State) : (pushItem k i s).firqN = s.firqN := by
  cases i <;> cases k <;> simp [pushItem]
@[simp] theorem pushItem_irqN (k : Stack) (i : StackItem) (s : State) : (pushItem k i s).irqN = s.irqN := by
  cases i <;> cases k <;> simp [pushItem]
@[simp] theorem pushItem_rom (k : Stack) (i : StackItem) (s : State) : (pushItem k i s).rom = s.rom := by
  cases i <;> cases k <;> simp [pushItem]

@[simp] theorem pushItems_cfg (k : Stack) (is : List StackItem) (s : State) : (pushItems k is s).cfg = s.cfg := by
  unfold pushItems
  induction is generalizing s with
  | nil => rfl
  | cons i is ih => simp [List.foldl, ih]
@[simp] theorem pushItems_a (k : Stack) (is : List StackItem) (s : State) : (pushItems k is s).a = s.a := by
  unfold pushItems
  induction is generalizing s with
  | nil => rfl
  | cons i is ih => simp [List.foldl, ih]
@[simp] theorem pushItems_b (k : Stack) (is : List StackItem) (s : State) : (pushItems k is s).b = s.b := by
  unfold pushItems
  induction is generalizing s with
  | nil => rfl
  | cons i is ih => simp [List.foldl, ih]
@[simp] theorem pushItems_x (k : Stack) (is : List StackItem) (s : State) : (pushItems k is s).x = s.x := by
  unfold pushItems
  induction is generalizing s with
  | nil => rfl
  | cons i is ih => simp [List.foldl, ih]
@[simp] theorem pushItems_y (k : Stack) (is : List StackItem) (s : State) : (pushItems k is s).y = s.y := by
  unfold pushItems
  induction is generalizing s with
  | nil => rfl
  | cons i is ih => simp [List.foldl, ih]
@[simp] theorem pushItems_pc (k : Stack) (is : List StackItem) (s : State) : (pushItems k is s).pc = s.pc := by
  unfold pushItems
  induction is generalizing s with
  | nil => rfl
  | cons i is ih => simp [List.foldl, ih]
@[simp] theorem pushItems_dp (k : Stack) (is : List StackItem) (s : State) : (pushItems k is s).dp = s.dp := by
  unfold pushItems
  induction is generalizing s with
  | nil => rfl
  | cons i is ih => simp [List.foldl, ih]
@[simp] theorem pushItems_cc (k : Stack) (is : List StackItem) (s : State) : (pushItems k is s).cc = s.cc := by
  unfold pushItems
  induction is generalizing s with
  | nil => rfl
  | cons i is ih => simp [List.foldl, ih]
@[simp] theorem pushItems_nmiHist (k : Stack) (is : List StackItem) (s : State) : (pushItems k is s).nmiHist = s.nmiHist := by
  unfold pushItems
  induction is generalizing s with
  | nil => rfl
  | cons i is ih => simp [List.foldl, ih]
@[simp] theorem pushItems_nmiDisabled (k : Stack) (is : List StackItem) (s : State) : (pushItems k is s).nmiDisabled = s.nmiDisabled := by
  unfold pushItems
  induction is generalizing s with
  | nil => rfl
  | cons i is ih => simp [List.foldl, ih]
@[simp] theorem pushItems_wait (k : Stack) (is : List StackItem) (s : State) : (pushItems k is s).wait = s.wait := by
  unfold pushItems
  induction is generalizing s with
  | nil => rfl
  | cons i is ih => simp [List.foldl, ih]
@[simp] theorem pushItems_busy (k : Stack) (is : List StackItem) (s : State) : (pushItems k is s).busy = s.busy := by
  unfold pushItems
  induction is generalizing s with
  | nil => rfl
  | cons i is ih => simp [List.foldl, ih]
@[simp] theorem pushItems_fault (k : Stack) (is : List StackItem) (s : State) : (pushItems k is s).fault = s.fault := by
  unfold pushItems
  induction is generalizing s with
  | nil => rfl
  | cons i is ih => simp [List.foldl, ih]
@[simp] theorem pushItems_nmiN (k : Stack) (is : List StackItem) (s : State) : (pushItems k is s).nmiN = s.nmiN := by
  unfold pushItems
  induction is generalizing s with
  | nil => rfl
  | cons i is ih => simp [List.foldl, ih]
@[simp] theorem pushItems_firqN (k : Stack) (is : List StackItem) (s : State) : (pushItems k is s).firqN = s.firqN := by
  unfold pushItems
  induction is generalizing s with
  | nil => rfl
  | cons i is ih => simp [List.foldl, ih]
@[simp] theorem pushItems_irqN (k : Stack) (is : List StackItem) (s : State) : (pushItems k is s).irqN = s.irqN := by
  unfold pushItems
  induction is generalizing s with
  | nil => rfl
  | cons i is ih => simp [List.foldl, ih]
@[simp] theorem pushItems_rom (k : Stack) (is : List StackItem) (s : State) : (pushItems k is s).rom = s.rom := by
  unfold pushItems
  induction is generalizing s with
  | nil => rfl
  | cons i is ih => simp [List.foldl, ih]

@[simp] theorem pushItem_s_u (i : StackItem) (s : State) : (pushItem .s i s).u = s.u := by
  cases i <;> simp [pushItem]
@[simp] theorem pushItem_u_sp (i : StackItem) (s : State) : (pushItem .u i s).sp = s.sp := by
  cases i <;> simp [pushItem]
@[simp] theorem pushItems_s_u (is : List StackItem) (s : State) : (pushItems .s is s).u = s.u := by
  unfold pushItems
  induction is generalizing s with
  | nil => rfl
  | cons i is ih => simp [List.foldl, ih]
@[simp] theorem pushItems_u_sp (is : List StackItem) (s : State) : (pushItems .u is s).sp = s.sp := by
  unfold pushItems
  induction is generalizing s with
  | nil => rfl
  | cons i is ih => simp [List.foldl, ih]

theorem pushItem_stackPtr (k : Stack) (i : StackItem) (s : State) :
    (pushItem k i s).stackPtr k = s.stackPtr k - BitVec.ofNat 16 i.bytes := by
  cases i <;> cases k <;> simp [pushItem, StackItem.bytes]

/-- The stack pointer goes down by the bytes pushed (R421). -/
theorem pushItems_stackPtr (k : Stack) (is : List StackItem) (s : State) :
    (pushItems k is s).stackPtr k = s.stackPtr k - BitVec.ofNat 16 (frameBytes is) := by
  unfold pushItems frameBytes
  induction is generalizing s with
  | nil => simp
  | cons i is ih =>
    simp only [List.foldl, ih, pushItem_stackPtr, List.map, List.sum_cons, BitVec.ofNat_add]
    ring

@[simp] theorem jumpVector_pc (v : Vector) (s : State) : (jumpVector v s).pc = (read16 s v.addr).1 := rfl

@[simp] theorem jumpVector_cfg (v : Vector) (s : State) : (jumpVector v s).cfg = s.cfg := by
  simp [jumpVector]
@[simp] theorem jumpVector_a (v : Vector) (s : State) : (jumpVector v s).a = s.a := by
  simp [jumpVector]
@[simp] theorem jumpVector_b (v : Vector) (s : State) : (jumpVector v s).b = s.b := by
  simp [jumpVector]
@[simp] theorem jumpVector_x (v : Vector) (s : State) : (jumpVector v s).x = s.x := by
  simp [jumpVector]
@[simp] theorem jumpVector_y (v : Vector) (s : State) : (jumpVector v s).y = s.y := by
  simp [jumpVector]
@[simp] theorem jumpVector_u (v : Vector) (s : State) : (jumpVector v s).u = s.u := by
  simp [jumpVector]
@[simp] theorem jumpVector_sp (v : Vector) (s : State) : (jumpVector v s).sp = s.sp := by
  simp [jumpVector]
@[simp] theorem jumpVector_dp (v : Vector) (s : State) : (jumpVector v s).dp = s.dp := by
  simp [jumpVector]
@[simp] theorem jumpVector_cc (v : Vector) (s : State) : (jumpVector v s).cc = s.cc := by
  simp [jumpVector]
@[simp] theorem jumpVector_nmiHist (v : Vector) (s : State) : (jumpVector v s).nmiHist = s.nmiHist := by
  simp [jumpVector]
@[simp] theorem jumpVector_nmiDisabled (v : Vector) (s : State) : (jumpVector v s).nmiDisabled = s.nmiDisabled := by
  simp [jumpVector]
@[simp] theorem jumpVector_wait (v : Vector) (s : State) : (jumpVector v s).wait = s.wait := by
  simp [jumpVector]
@[simp] theorem jumpVector_busy (v : Vector) (s : State) : (jumpVector v s).busy = s.busy := by
  simp [jumpVector]
@[simp] theorem jumpVector_fault (v : Vector) (s : State) : (jumpVector v s).fault = s.fault := by
  simp [jumpVector]
@[simp] theorem jumpVector_nmiN (v : Vector) (s : State) : (jumpVector v s).nmiN = s.nmiN := by
  simp [jumpVector]
@[simp] theorem jumpVector_firqN (v : Vector) (s : State) : (jumpVector v s).firqN = s.firqN := by
  simp [jumpVector]
@[simp] theorem jumpVector_irqN (v : Vector) (s : State) : (jumpVector v s).irqN = s.irqN := by
  simp [jumpVector]
@[simp] theorem jumpVector_ram (v : Vector) (s : State) : (jumpVector v s).ram = s.ram := by
  simp [jumpVector]
@[simp] theorem jumpVector_rom (v : Vector) (s : State) : (jumpVector v s).rom = s.rom := by
  simp [jumpVector]
@[simp] theorem jumpVector_bankRam1 (v : Vector) (s : State) : (jumpVector v s).bankRam1 = s.bankRam1 := by
  simp [jumpVector]
@[simp] theorem jumpVector_bankRam2 (v : Vector) (s : State) : (jumpVector v s).bankRam2 = s.bankRam2 := by
  simp [jumpVector]
@[simp] theorem jumpVector_defragIssued (v : Vector) (s : State) : (jumpVector v s).defragIssued = s.defragIssued := by
  simp [jumpVector]

/-! ### Operand forms (40_addressing_modes.md) -/

@[simp] theorem IdxMode.ea_cfg (m : IdxMode) (r : IdxReg) (s : State) : ((IdxMode.ea m r s).2).cfg = s.cfg := by
  cases m <;> simp [IdxMode.ea]
@[simp] theorem IdxMode.ea_a (m : IdxMode) (r : IdxReg) (s : State) : ((IdxMode.ea m r s).2).a = s.a := by
  cases m <;> simp [IdxMode.ea]
@[simp] theorem IdxMode.ea_b (m : IdxMode) (r : IdxReg) (s : State) : ((IdxMode.ea m r s).2).b = s.b := by
  cases m <;> simp [IdxMode.ea]
@[simp] theorem IdxMode.ea_pc (m : IdxMode) (r : IdxReg) (s : State) : ((IdxMode.ea m r s).2).pc = s.pc := by
  cases m <;> simp [IdxMode.ea]
@[simp] theorem IdxMode.ea_dp (m : IdxMode) (r : IdxReg) (s : State) : ((IdxMode.ea m r s).2).dp = s.dp := by
  cases m <;> simp [IdxMode.ea]
@[simp] theorem IdxMode.ea_cc (m : IdxMode) (r : IdxReg) (s : State) : ((IdxMode.ea m r s).2).cc = s.cc := by
  cases m <;> simp [IdxMode.ea]
@[simp] theorem IdxMode.ea_nmiHist (m : IdxMode) (r : IdxReg) (s : State) : ((IdxMode.ea m r s).2).nmiHist = s.nmiHist := by
  cases m <;> simp [IdxMode.ea]
@[simp] theorem IdxMode.ea_nmiDisabled (m : IdxMode) (r : IdxReg) (s : State) : ((IdxMode.ea m r s).2).nmiDisabled = s.nmiDisabled := by
  cases m <;> simp [IdxMode.ea]
@[simp] theorem IdxMode.ea_wait (m : IdxMode) (r : IdxReg) (s : State) : ((IdxMode.ea m r s).2).wait = s.wait := by
  cases m <;> simp [IdxMode.ea]
@[simp] theorem IdxMode.ea_fault (m : IdxMode) (r : IdxReg) (s : State) : ((IdxMode.ea m r s).2).fault = s.fault := by
  cases m <;> simp [IdxMode.ea]
@[simp] theorem IdxMode.ea_nmiN (m : IdxMode) (r : IdxReg) (s : State) : ((IdxMode.ea m r s).2).nmiN = s.nmiN := by
  cases m <;> simp [IdxMode.ea]
@[simp] theorem IdxMode.ea_firqN (m : IdxMode) (r : IdxReg) (s : State) : ((IdxMode.ea m r s).2).firqN = s.firqN := by
  cases m <;> simp [IdxMode.ea]
@[simp] theorem IdxMode.ea_irqN (m : IdxMode) (r : IdxReg) (s : State) : ((IdxMode.ea m r s).2).irqN = s.irqN := by
  cases m <;> simp [IdxMode.ea]
@[simp] theorem IdxMode.ea_mmu (m : IdxMode) (r : IdxReg) (s : State) : ((IdxMode.ea m r s).2).mmu = s.mmu := by
  cases m <;> simp [IdxMode.ea]
@[simp] theorem IdxMode.ea_ram (m : IdxMode) (r : IdxReg) (s : State) : ((IdxMode.ea m r s).2).ram = s.ram := by
  cases m <;> simp [IdxMode.ea]
@[simp] theorem IdxMode.ea_rom (m : IdxMode) (r : IdxReg) (s : State) : ((IdxMode.ea m r s).2).rom = s.rom := by
  cases m <;> simp [IdxMode.ea]
@[simp] theorem IdxMode.ea_bankRam1 (m : IdxMode) (r : IdxReg) (s : State) : ((IdxMode.ea m r s).2).bankRam1 = s.bankRam1 := by
  cases m <;> simp [IdxMode.ea]
@[simp] theorem IdxMode.ea_bankRam2 (m : IdxMode) (r : IdxReg) (s : State) : ((IdxMode.ea m r s).2).bankRam2 = s.bankRam2 := by
  cases m <;> simp [IdxMode.ea]
@[simp] theorem IdxMode.ea_draws (m : IdxMode) (r : IdxReg) (s : State) : ((IdxMode.ea m r s).2).draws = s.draws := by
  cases m <;> simp [IdxMode.ea]
@[simp] theorem IdxMode.ea_defragIssued (m : IdxMode) (r : IdxReg) (s : State) : ((IdxMode.ea m r s).2).defragIssued = s.defragIssued := by
  cases m <;> simp [IdxMode.ea]


@[simp] theorem indirect_cfg (ind : Bool) (p : Addr × State) : (indirect ind p).2.cfg = p.2.cfg := by
  cases ind <;> simp [indirect]
@[simp] theorem indirect_a (ind : Bool) (p : Addr × State) : (indirect ind p).2.a = p.2.a := by
  cases ind <;> simp [indirect]
@[simp] theorem indirect_b (ind : Bool) (p : Addr × State) : (indirect ind p).2.b = p.2.b := by
  cases ind <;> simp [indirect]
@[simp] theorem indirect_x (ind : Bool) (p : Addr × State) : (indirect ind p).2.x = p.2.x := by
  cases ind <;> simp [indirect]
@[simp] theorem indirect_y (ind : Bool) (p : Addr × State) : (indirect ind p).2.y = p.2.y := by
  cases ind <;> simp [indirect]
@[simp] theorem indirect_u (ind : Bool) (p : Addr × State) : (indirect ind p).2.u = p.2.u := by
  cases ind <;> simp [indirect]
@[simp] theorem indirect_sp (ind : Bool) (p : Addr × State) : (indirect ind p).2.sp = p.2.sp := by
  cases ind <;> simp [indirect]
@[simp] theorem indirect_pc (ind : Bool) (p : Addr × State) : (indirect ind p).2.pc = p.2.pc := by
  cases ind <;> simp [indirect]
@[simp] theorem indirect_dp (ind : Bool) (p : Addr × State) : (indirect ind p).2.dp = p.2.dp := by
  cases ind <;> simp [indirect]
@[simp] theorem indirect_cc (ind : Bool) (p : Addr × State) : (indirect ind p).2.cc = p.2.cc := by
  cases ind <;> simp [indirect]
@[simp] theorem indirect_nmiHist (ind : Bool) (p : Addr × State) : (indirect ind p).2.nmiHist = p.2.nmiHist := by
  cases ind <;> simp [indirect]
@[simp] theorem indirect_nmiDisabled (ind : Bool) (p : Addr × State) : (indirect ind p).2.nmiDisabled = p.2.nmiDisabled := by
  cases ind <;> simp [indirect]
@[simp] theorem indirect_wait (ind : Bool) (p : Addr × State) : (indirect ind p).2.wait = p.2.wait := by
  cases ind <;> simp [indirect]
@[simp] theorem indirect_fault (ind : Bool) (p : Addr × State) : (indirect ind p).2.fault = p.2.fault := by
  cases ind <;> simp [indirect]
@[simp] theorem indirect_nmiN (ind : Bool) (p : Addr × State) : (indirect ind p).2.nmiN = p.2.nmiN := by
  cases ind <;> simp [indirect]
@[simp] theorem indirect_firqN (ind : Bool) (p : Addr × State) : (indirect ind p).2.firqN = p.2.firqN := by
  cases ind <;> simp [indirect]
@[simp] theorem indirect_irqN (ind : Bool) (p : Addr × State) : (indirect ind p).2.irqN = p.2.irqN := by
  cases ind <;> simp [indirect]
@[simp] theorem indirect_ram (ind : Bool) (p : Addr × State) : (indirect ind p).2.ram = p.2.ram := by
  cases ind <;> simp [indirect]
@[simp] theorem indirect_rom (ind : Bool) (p : Addr × State) : (indirect ind p).2.rom = p.2.rom := by
  cases ind <;> simp [indirect]
@[simp] theorem indirect_bankRam1 (ind : Bool) (p : Addr × State) : (indirect ind p).2.bankRam1 = p.2.bankRam1 := by
  cases ind <;> simp [indirect]
@[simp] theorem indirect_bankRam2 (ind : Bool) (p : Addr × State) : (indirect ind p).2.bankRam2 = p.2.bankRam2 := by
  cases ind <;> simp [indirect]
@[simp] theorem indirect_defragIssued (ind : Bool) (p : Addr × State) : (indirect ind p).2.defragIssued = p.2.defragIssued := by
  cases ind <;> simp [indirect]

@[simp] theorem Indexed.ea_cfg (m : Indexed) (s : State) : ((Indexed.ea m s).2).cfg = s.cfg := by
  cases m <;> simp [Indexed.ea]
@[simp] theorem Indexed.ea_a (m : Indexed) (s : State) : ((Indexed.ea m s).2).a = s.a := by
  cases m <;> simp [Indexed.ea]
@[simp] theorem Indexed.ea_b (m : Indexed) (s : State) : ((Indexed.ea m s).2).b = s.b := by
  cases m <;> simp [Indexed.ea]
@[simp] theorem Indexed.ea_pc (m : Indexed) (s : State) : ((Indexed.ea m s).2).pc = s.pc := by
  cases m <;> simp [Indexed.ea]
@[simp] theorem Indexed.ea_dp (m : Indexed) (s : State) : ((Indexed.ea m s).2).dp = s.dp := by
  cases m <;> simp [Indexed.ea]
@[simp] theorem Indexed.ea_cc (m : Indexed) (s : State) : ((Indexed.ea m s).2).cc = s.cc := by
  cases m <;> simp [Indexed.ea]
@[simp] theorem Indexed.ea_nmiHist (m : Indexed) (s : State) : ((Indexed.ea m s).2).nmiHist = s.nmiHist := by
  cases m <;> simp [Indexed.ea]
@[simp] theorem Indexed.ea_nmiDisabled (m : Indexed) (s : State) : ((Indexed.ea m s).2).nmiDisabled = s.nmiDisabled := by
  cases m <;> simp [Indexed.ea]
@[simp] theorem Indexed.ea_wait (m : Indexed) (s : State) : ((Indexed.ea m s).2).wait = s.wait := by
  cases m <;> simp [Indexed.ea]
@[simp] theorem Indexed.ea_fault (m : Indexed) (s : State) : ((Indexed.ea m s).2).fault = s.fault := by
  cases m <;> simp [Indexed.ea]
@[simp] theorem Indexed.ea_nmiN (m : Indexed) (s : State) : ((Indexed.ea m s).2).nmiN = s.nmiN := by
  cases m <;> simp [Indexed.ea]
@[simp] theorem Indexed.ea_firqN (m : Indexed) (s : State) : ((Indexed.ea m s).2).firqN = s.firqN := by
  cases m <;> simp [Indexed.ea]
@[simp] theorem Indexed.ea_irqN (m : Indexed) (s : State) : ((Indexed.ea m s).2).irqN = s.irqN := by
  cases m <;> simp [Indexed.ea]
@[simp] theorem Indexed.ea_ram (m : Indexed) (s : State) : ((Indexed.ea m s).2).ram = s.ram := by
  cases m <;> simp [Indexed.ea]
@[simp] theorem Indexed.ea_rom (m : Indexed) (s : State) : ((Indexed.ea m s).2).rom = s.rom := by
  cases m <;> simp [Indexed.ea]
@[simp] theorem Indexed.ea_bankRam1 (m : Indexed) (s : State) : ((Indexed.ea m s).2).bankRam1 = s.bankRam1 := by
  cases m <;> simp [Indexed.ea]
@[simp] theorem Indexed.ea_bankRam2 (m : Indexed) (s : State) : ((Indexed.ea m s).2).bankRam2 = s.bankRam2 := by
  cases m <;> simp [Indexed.ea]
@[simp] theorem Indexed.ea_defragIssued (m : Indexed) (s : State) : ((Indexed.ea m s).2).defragIssued = s.defragIssued := by
  cases m <;> simp [Indexed.ea]

@[simp] theorem MemForm.ea_cfg (e : MemForm) (s : State) : ((MemForm.ea e s).2).cfg = s.cfg := by
  cases e <;> simp [MemForm.ea]
@[simp] theorem MemForm.ea_a (e : MemForm) (s : State) : ((MemForm.ea e s).2).a = s.a := by
  cases e <;> simp [MemForm.ea]
@[simp] theorem MemForm.ea_b (e : MemForm) (s : State) : ((MemForm.ea e s).2).b = s.b := by
  cases e <;> simp [MemForm.ea]
@[simp] theorem MemForm.ea_pc (e : MemForm) (s : State) : ((MemForm.ea e s).2).pc = s.pc := by
  cases e <;> simp [MemForm.ea]
@[simp] theorem MemForm.ea_dp (e : MemForm) (s : State) : ((MemForm.ea e s).2).dp = s.dp := by
  cases e <;> simp [MemForm.ea]
@[simp] theorem MemForm.ea_cc (e : MemForm) (s : State) : ((MemForm.ea e s).2).cc = s.cc := by
  cases e <;> simp [MemForm.ea]
@[simp] theorem MemForm.ea_nmiHist (e : MemForm) (s : State) : ((MemForm.ea e s).2).nmiHist = s.nmiHist := by
  cases e <;> simp [MemForm.ea]
@[simp] theorem MemForm.ea_nmiDisabled (e : MemForm) (s : State) : ((MemForm.ea e s).2).nmiDisabled = s.nmiDisabled := by
  cases e <;> simp [MemForm.ea]
@[simp] theorem MemForm.ea_wait (e : MemForm) (s : State) : ((MemForm.ea e s).2).wait = s.wait := by
  cases e <;> simp [MemForm.ea]
@[simp] theorem MemForm.ea_fault (e : MemForm) (s : State) : ((MemForm.ea e s).2).fault = s.fault := by
  cases e <;> simp [MemForm.ea]
@[simp] theorem MemForm.ea_nmiN (e : MemForm) (s : State) : ((MemForm.ea e s).2).nmiN = s.nmiN := by
  cases e <;> simp [MemForm.ea]
@[simp] theorem MemForm.ea_firqN (e : MemForm) (s : State) : ((MemForm.ea e s).2).firqN = s.firqN := by
  cases e <;> simp [MemForm.ea]
@[simp] theorem MemForm.ea_irqN (e : MemForm) (s : State) : ((MemForm.ea e s).2).irqN = s.irqN := by
  cases e <;> simp [MemForm.ea]
@[simp] theorem MemForm.ea_ram (e : MemForm) (s : State) : ((MemForm.ea e s).2).ram = s.ram := by
  cases e <;> simp [MemForm.ea]
@[simp] theorem MemForm.ea_rom (e : MemForm) (s : State) : ((MemForm.ea e s).2).rom = s.rom := by
  cases e <;> simp [MemForm.ea]
@[simp] theorem MemForm.ea_bankRam1 (e : MemForm) (s : State) : ((MemForm.ea e s).2).bankRam1 = s.bankRam1 := by
  cases e <;> simp [MemForm.ea]
@[simp] theorem MemForm.ea_bankRam2 (e : MemForm) (s : State) : ((MemForm.ea e s).2).bankRam2 = s.bankRam2 := by
  cases e <;> simp [MemForm.ea]
@[simp] theorem MemForm.ea_defragIssued (e : MemForm) (s : State) : ((MemForm.ea e s).2).defragIssued = s.defragIssued := by
  cases e <;> simp [MemForm.ea]

@[simp] theorem Src8.read_cfg (m : Src8) (s : State) : ((Src8.read m s).2).cfg = s.cfg := by
  cases m <;> simp [Src8.read]
@[simp] theorem Src8.read_a (m : Src8) (s : State) : ((Src8.read m s).2).a = s.a := by
  cases m <;> simp [Src8.read]
@[simp] theorem Src8.read_b (m : Src8) (s : State) : ((Src8.read m s).2).b = s.b := by
  cases m <;> simp [Src8.read]
@[simp] theorem Src8.read_pc (m : Src8) (s : State) : ((Src8.read m s).2).pc = s.pc := by
  cases m <;> simp [Src8.read]
@[simp] theorem Src8.read_dp (m : Src8) (s : State) : ((Src8.read m s).2).dp = s.dp := by
  cases m <;> simp [Src8.read]
@[simp] theorem Src8.read_cc (m : Src8) (s : State) : ((Src8.read m s).2).cc = s.cc := by
  cases m <;> simp [Src8.read]
@[simp] theorem Src8.read_nmiHist (m : Src8) (s : State) : ((Src8.read m s).2).nmiHist = s.nmiHist := by
  cases m <;> simp [Src8.read]
@[simp] theorem Src8.read_nmiDisabled (m : Src8) (s : State) : ((Src8.read m s).2).nmiDisabled = s.nmiDisabled := by
  cases m <;> simp [Src8.read]
@[simp] theorem Src8.read_wait (m : Src8) (s : State) : ((Src8.read m s).2).wait = s.wait := by
  cases m <;> simp [Src8.read]
@[simp] theorem Src8.read_fault (m : Src8) (s : State) : ((Src8.read m s).2).fault = s.fault := by
  cases m <;> simp [Src8.read]
@[simp] theorem Src8.read_nmiN (m : Src8) (s : State) : ((Src8.read m s).2).nmiN = s.nmiN := by
  cases m <;> simp [Src8.read]
@[simp] theorem Src8.read_firqN (m : Src8) (s : State) : ((Src8.read m s).2).firqN = s.firqN := by
  cases m <;> simp [Src8.read]
@[simp] theorem Src8.read_irqN (m : Src8) (s : State) : ((Src8.read m s).2).irqN = s.irqN := by
  cases m <;> simp [Src8.read]
@[simp] theorem Src8.read_ram (m : Src8) (s : State) : ((Src8.read m s).2).ram = s.ram := by
  cases m <;> simp [Src8.read]
@[simp] theorem Src8.read_rom (m : Src8) (s : State) : ((Src8.read m s).2).rom = s.rom := by
  cases m <;> simp [Src8.read]
@[simp] theorem Src8.read_bankRam1 (m : Src8) (s : State) : ((Src8.read m s).2).bankRam1 = s.bankRam1 := by
  cases m <;> simp [Src8.read]
@[simp] theorem Src8.read_bankRam2 (m : Src8) (s : State) : ((Src8.read m s).2).bankRam2 = s.bankRam2 := by
  cases m <;> simp [Src8.read]
@[simp] theorem Src8.read_defragIssued (m : Src8) (s : State) : ((Src8.read m s).2).defragIssued = s.defragIssued := by
  cases m <;> simp [Src8.read]

@[simp] theorem Src16.read_cfg (m : Src16) (s : State) : ((Src16.read m s).2).cfg = s.cfg := by
  cases m <;> simp [Src16.read]
@[simp] theorem Src16.read_a (m : Src16) (s : State) : ((Src16.read m s).2).a = s.a := by
  cases m <;> simp [Src16.read]
@[simp] theorem Src16.read_b (m : Src16) (s : State) : ((Src16.read m s).2).b = s.b := by
  cases m <;> simp [Src16.read]
@[simp] theorem Src16.read_pc (m : Src16) (s : State) : ((Src16.read m s).2).pc = s.pc := by
  cases m <;> simp [Src16.read]
@[simp] theorem Src16.read_dp (m : Src16) (s : State) : ((Src16.read m s).2).dp = s.dp := by
  cases m <;> simp [Src16.read]
@[simp] theorem Src16.read_cc (m : Src16) (s : State) : ((Src16.read m s).2).cc = s.cc := by
  cases m <;> simp [Src16.read]
@[simp] theorem Src16.read_nmiHist (m : Src16) (s : State) : ((Src16.read m s).2).nmiHist = s.nmiHist := by
  cases m <;> simp [Src16.read]
@[simp] theorem Src16.read_nmiDisabled (m : Src16) (s : State) : ((Src16.read m s).2).nmiDisabled = s.nmiDisabled := by
  cases m <;> simp [Src16.read]
@[simp] theorem Src16.read_wait (m : Src16) (s : State) : ((Src16.read m s).2).wait = s.wait := by
  cases m <;> simp [Src16.read]
@[simp] theorem Src16.read_fault (m : Src16) (s : State) : ((Src16.read m s).2).fault = s.fault := by
  cases m <;> simp [Src16.read]
@[simp] theorem Src16.read_nmiN (m : Src16) (s : State) : ((Src16.read m s).2).nmiN = s.nmiN := by
  cases m <;> simp [Src16.read]
@[simp] theorem Src16.read_firqN (m : Src16) (s : State) : ((Src16.read m s).2).firqN = s.firqN := by
  cases m <;> simp [Src16.read]
@[simp] theorem Src16.read_irqN (m : Src16) (s : State) : ((Src16.read m s).2).irqN = s.irqN := by
  cases m <;> simp [Src16.read]
@[simp] theorem Src16.read_ram (m : Src16) (s : State) : ((Src16.read m s).2).ram = s.ram := by
  cases m <;> simp [Src16.read]
@[simp] theorem Src16.read_rom (m : Src16) (s : State) : ((Src16.read m s).2).rom = s.rom := by
  cases m <;> simp [Src16.read]
@[simp] theorem Src16.read_bankRam1 (m : Src16) (s : State) : ((Src16.read m s).2).bankRam1 = s.bankRam1 := by
  cases m <;> simp [Src16.read]
@[simp] theorem Src16.read_bankRam2 (m : Src16) (s : State) : ((Src16.read m s).2).bankRam2 = s.bankRam2 := by
  cases m <;> simp [Src16.read]
@[simp] theorem Src16.read_defragIssued (m : Src16) (s : State) : ((Src16.read m s).2).defragIssued = s.defragIssued := by
  cases m <;> simp [Src16.read]

/-! ### The canonical forms -/

theorem State.Kept.of_mem {s t : State} (h : s.Kept) (hc : t.cfg = s.cfg) (h1 : t.ram = s.ram) (h2 : t.rom = s.rom)
    (h3 : t.bankRam1 = s.bankRam1) (h4 : t.bankRam2 = s.bankRam2) (hm : t.mmu = s.mmu) : t.Kept :=
  h.of_eq hc h1 h2 h3 h4 (hm ▸ h.mmu)

theorem State.Kept.setStackPtr {s : State} (h : s.Kept) (k : Stack) (w : Word) : (s.setStackPtr k w).Kept :=
  h.of_mem (by simp) (by simp) (by simp) (by simp) (by simp) (by simp)

theorem State.Kept.push8 {s : State} (h : s.Kept) (k : Stack) (v : Byte) : (push8 k v s).Kept :=
  (h.setStackPtr k _).busWrite _ _

theorem State.Kept.push16 {s : State} (h : s.Kept) (k : Stack) (w : Word) : (push16 k w s).Kept :=
  (h.push8 k _).push8 k _

theorem State.Kept.pull8 {s : State} (h : s.Kept) (k : Stack) : (pull8 k s).2.Kept :=
  (h.busRead _).setStackPtr k _

theorem State.Kept.pull16 {s : State} (h : s.Kept) (k : Stack) : (pull16 k s).2.Kept := (h.pull8 k).pull8 k

theorem State.Kept.pushItem {s : State} (h : s.Kept) (k : Stack) (i : StackItem) : (pushItem k i s).Kept := by
  cases i <;> cases k <;> first | exact h.push16 _ _ | exact h.push8 _ _

theorem State.Kept.pushItems {s : State} (h : s.Kept) (k : Stack) (is : List StackItem) : (pushItems k is s).Kept := by
  unfold Machine.pushItems
  induction is generalizing s with
  | nil => exact h
  | cons i is ih => exact ih (h.pushItem k i)

theorem State.Kept.pullItem {s : State} (h : s.Kept) (k : Stack) (i : StackItem) : (pullItem k i s).Kept := by
  cases i <;> cases k <;>
    first
      | exact (h.pull16 _).of_mem rfl rfl rfl rfl rfl rfl
      | exact (h.pull8 _).of_mem rfl rfl rfl rfl rfl rfl

theorem State.Kept.pullItems {s : State} (h : s.Kept) (k : Stack) (is : List StackItem) : (pullItems k is s).Kept := by
  unfold Machine.pullItems
  induction is generalizing s with
  | nil => exact h
  | cons i is ih => exact ih (h.pullItem k i)

theorem State.Kept.jumpVector {s : State} (h : s.Kept) (v : Vector) : (jumpVector v s).Kept :=
  (h.read16 _).of_mem rfl rfl rfl rfl rfl rfl

theorem State.Kept.indirect {p : Addr × State} (h : p.2.Kept) (ind : Bool) : (indirect ind p).2.Kept := by
  cases ind
  · exact h
  · exact (h.read16 _).of_mem rfl rfl rfl rfl rfl rfl

theorem State.Kept.indexedEa {s : State} (h : s.Kept) (m : Indexed) : (Indexed.ea m s).2.Kept := by
  have hm (m : IdxMode) (r : IdxReg) : (IdxMode.ea m r s).2.Kept :=
    h.of_mem (by simp) (by simp) (by simp) (by simp) (by simp) (by cases m <;> simp [IdxMode.ea])
  cases m with
  | off5 r n => exact h.of_mem rfl rfl rfl rfl rfl rfl
  | postInc1 r => exact h.of_mem (by simp [Indexed.ea]) (by simp) (by simp) (by simp) (by simp) (by simp [Indexed.ea])
  | preDec1 r => exact h.of_mem (by simp [Indexed.ea]) (by simp) (by simp) (by simp) (by simp) (by simp [Indexed.ea])
  | reg r ind m => exact State.Kept.indirect (hm m r) ind
  | pcr8 r ind n => exact State.Kept.indirect (p := (_, s.addBusy 1)) (h.of_mem rfl rfl rfl rfl rfl rfl) ind
  | pcr16 r ind n => exact State.Kept.indirect (p := (_, s.addBusy 5)) (h.of_mem rfl rfl rfl rfl rfl rfl) ind
  | extInd a => exact State.Kept.indirect (p := (_, s.addBusy 2)) (h.of_mem rfl rfl rfl rfl rfl rfl) true

theorem State.Kept.memEa {s : State} (h : s.Kept) (e : MemForm) : (MemForm.ea e s).2.Kept := by
  cases e with
  | dir lo => exact h
  | idx m => exact h.indexedEa m
  | ext a => exact h

theorem State.Kept.src8 {s : State} (h : s.Kept) (m : Src8) : (Src8.read m s).2.Kept := by
  cases m with
  | imm v => exact h
  | mem e => exact (h.memEa e).busRead _

theorem State.Kept.src16 {s : State} (h : s.Kept) (m : Src16) : (Src16.read m s).2.Kept := by
  cases m with
  | imm v => exact h
  | mem e => exact (h.memEa e).read16 _

/-- An effective address in direct or extended mode changes nothing (40_addressing_modes.md R174, R175). -/
@[simp] theorem MemForm.ea_dir (lo : Byte) (s : State) : MemForm.ea (.dir lo) s = (joinBytes s.dp lo, s) := rfl
@[simp] theorem MemForm.ea_ext (a : Addr) (s : State) : MemForm.ea (.ext a) s = (a, s) := rfl
@[simp] theorem MemForm.ea_idx (m : Indexed) (s : State) : MemForm.ea (.idx m) s = Indexed.ea m s := rfl

end Sys2Proof.Machine
end

