-- ==== Sys2Proof/Laws/PerInstr.lean ====
section
/-! SUPPORT. Statements made for every instruction, one lemma per constructor. -/

namespace Sys2Proof.Laws

/-- The extension bytes of an indexed operand are at most two (40_addressing_modes.md R196). -/
theorem indexed_bytes_length (m : Indexed) : m.bytes.length ≤ 3 := by
  cases m with
  | reg r ind k => cases k <;> simp [Indexed.bytes, Indexed.ext, IdxMode.ext]
  | _ => simp [Indexed.bytes, Indexed.ext]

/-- The opcode bytes of an instruction form a mapped key, of one or two bytes, and at most three operand bytes follow
(30_encoding.md R131, R145). -/
def EncodedLength.Statement (i : Instr) : Prop :=
  (lookupKey (keyOf i.parts.1)).isSome = true ∧ 1 ≤ i.parts.1.length ∧ i.parts.1.length ≤ 2 ∧ i.parts.2.length ≤ 3

theorem EncodedLength.ofParts {i : Instr} {op ext : List Byte} (h : i.parts = (op, ext))
    (hk : (lookupKey (keyOf op)).isSome = true) (h1 : 1 ≤ op.length) (h2 : op.length ≤ 2) (h3 : ext.length ≤ 3) :
    EncodedLength.Statement i := by
  rw [EncodedLength.Statement, h]
  exact ⟨hk, h1, h2, h3⟩

namespace EncodedLength

theorem neg (e : MemForm) : Statement (.neg e) := by
  rcases e with lo | m | addr
  · exact ofParts (op := [0x00]) (ext := [lo]) rfl (by decide) (by decide) (by decide) (by simp)
  · exact ofParts (op := [0x60]) (ext := m.bytes) rfl (by decide) (by decide) (by decide) (indexed_bytes_length m)
  · exact ofParts (op := [0x70]) (ext := [hiByte addr, loByte addr]) rfl (by decide) (by decide) (by decide) (by simp)
theorem com (e : MemForm) : Statement (.com e) := by
  rcases e with lo | m | addr
  · exact ofParts (op := [0x03]) (ext := [lo]) rfl (by decide) (by decide) (by decide) (by simp)
  · exact ofParts (op := [0x63]) (ext := m.bytes) rfl (by decide) (by decide) (by decide) (indexed_bytes_length m)
  · exact ofParts (op := [0x73]) (ext := [hiByte addr, loByte addr]) rfl (by decide) (by decide) (by decide) (by simp)
theorem lsr (e : MemForm) : Statement (.lsr e) := by
  rcases e with lo | m | addr
  · exact ofParts (op := [0x04]) (ext := [lo]) rfl (by decide) (by decide) (by decide) (by simp)
  · exact ofParts (op := [0x64]) (ext := m.bytes) rfl (by decide) (by decide) (by decide) (indexed_bytes_length m)
  · exact ofParts (op := [0x74]) (ext := [hiByte addr, loByte addr]) rfl (by decide) (by decide) (by decide) (by simp)
theorem ror (e : MemForm) : Statement (.ror e) := by
  rcases e with lo | m | addr
  · exact ofParts (op := [0x06]) (ext := [lo]) rfl (by decide) (by decide) (by decide) (by simp)
  · exact ofParts (op := [0x66]) (ext := m.bytes) rfl (by decide) (by decide) (by decide) (indexed_bytes_length m)
  · exact ofParts (op := [0x76]) (ext := [hiByte addr, loByte addr]) rfl (by decide) (by decide) (by decide) (by simp)
theorem asr (e : MemForm) : Statement (.asr e) := by
  rcases e with lo | m | addr
  · exact ofParts (op := [0x07]) (ext := [lo]) rfl (by decide) (by decide) (by decide) (by simp)
  · exact ofParts (op := [0x67]) (ext := m.bytes) rfl (by decide) (by decide) (by decide) (indexed_bytes_length m)
  · exact ofParts (op := [0x77]) (ext := [hiByte addr, loByte addr]) rfl (by decide) (by decide) (by decide) (by simp)
theorem asl (e : MemForm) : Statement (.asl e) := by
  rcases e with lo | m | addr
  · exact ofParts (op := [0x08]) (ext := [lo]) rfl (by decide) (by decide) (by decide) (by simp)
  · exact ofParts (op := [0x68]) (ext := m.bytes) rfl (by decide) (by decide) (by decide) (indexed_bytes_length m)
  · exact ofParts (op := [0x78]) (ext := [hiByte addr, loByte addr]) rfl (by decide) (by decide) (by decide) (by simp)
theorem rol (e : MemForm) : Statement (.rol e) := by
  rcases e with lo | m | addr
  · exact ofParts (op := [0x09]) (ext := [lo]) rfl (by decide) (by decide) (by decide) (by simp)
  · exact ofParts (op := [0x69]) (ext := m.bytes) rfl (by decide) (by decide) (by decide) (indexed_bytes_length m)
  · exact ofParts (op := [0x79]) (ext := [hiByte addr, loByte addr]) rfl (by decide) (by decide) (by decide) (by simp)
theorem dec (e : MemForm) : Statement (.dec e) := by
  rcases e with lo | m | addr
  · exact ofParts (op := [0x0A]) (ext := [lo]) rfl (by decide) (by decide) (by decide) (by simp)
  · exact ofParts (op := [0x6A]) (ext := m.bytes) rfl (by decide) (by decide) (by decide) (indexed_bytes_length m)
  · exact ofParts (op := [0x7A]) (ext := [hiByte addr, loByte addr]) rfl (by decide) (by decide) (by decide) (by simp)
theorem inc (e : MemForm) : Statement (.inc e) := by
  rcases e with lo | m | addr
  · exact ofParts (op := [0x0C]) (ext := [lo]) rfl (by decide) (by decide) (by decide) (by simp)
  · exact ofParts (op := [0x6C]) (ext := m.bytes) rfl (by decide) (by decide) (by decide) (indexed_bytes_length m)
  · exact ofParts (op := [0x7C]) (ext := [hiByte addr, loByte addr]) rfl (by decide) (by decide) (by decide) (by simp)
theorem tst (e : MemForm) : Statement (.tst e) := by
  rcases e with lo | m | addr
  · exact ofParts (op := [0x0D]) (ext := [lo]) rfl (by decide) (by decide) (by decide) (by simp)
  · exact ofParts (op := [0x6D]) (ext := m.bytes) rfl (by decide) (by decide) (by decide) (indexed_bytes_length m)
  · exact ofParts (op := [0x7D]) (ext := [hiByte addr, loByte addr]) rfl (by decide) (by decide) (by decide) (by simp)
theorem jmp (e : MemForm) : Statement (.jmp e) := by
  rcases e with lo | m | addr
  · exact ofParts (op := [0x0E]) (ext := [lo]) rfl (by decide) (by decide) (by decide) (by simp)
  · exact ofParts (op := [0x6E]) (ext := m.bytes) rfl (by decide) (by decide) (by decide) (indexed_bytes_length m)
  · exact ofParts (op := [0x7E]) (ext := [hiByte addr, loByte addr]) rfl (by decide) (by decide) (by decide) (by simp)
theorem clr (e : MemForm) : Statement (.clr e) := by
  rcases e with lo | m | addr
  · exact ofParts (op := [0x0F]) (ext := [lo]) rfl (by decide) (by decide) (by decide) (by simp)
  · exact ofParts (op := [0x6F]) (ext := m.bytes) rfl (by decide) (by decide) (by decide) (indexed_bytes_length m)
  · exact ofParts (op := [0x7F]) (ext := [hiByte addr, loByte addr]) rfl (by decide) (by decide) (by decide) (by simp)
theorem nop : Statement .nop := ofParts (op := [0x12]) (ext := []) rfl (by decide) (by decide) (by decide) (by simp)
theorem sync : Statement .sync := ofParts (op := [0x13]) (ext := []) rfl (by decide) (by decide) (by decide) (by simp)
theorem lbra (off : Word) : Statement (.lbra off) := ofParts (op := [0x16]) (ext := [hiByte off, loByte off]) rfl (by decide) (by decide) (by decide) (by simp)
theorem lbsr (off : Word) : Statement (.lbsr off) := ofParts (op := [0x17]) (ext := [hiByte off, loByte off]) rfl (by decide) (by decide) (by decide) (by simp)
theorem daa : Statement .daa := ofParts (op := [0x19]) (ext := []) rfl (by decide) (by decide) (by decide) (by simp)
theorem orcc (v : Byte) : Statement (.orcc v) := ofParts (op := [0x1A]) (ext := [v]) rfl (by decide) (by decide) (by decide) (by simp)
theorem andcc (v : Byte) : Statement (.andcc v) := ofParts (op := [0x1C]) (ext := [v]) rfl (by decide) (by decide) (by decide) (by simp)
theorem sex : Statement .sex := ofParts (op := [0x1D]) (ext := []) rfl (by decide) (by decide) (by decide) (by simp)
theorem exg (src : BitVec 4) (dst : BitVec 4) : Statement (.exg src dst) := ofParts (op := [0x1E]) (ext := [src ++ dst]) rfl (by decide) (by decide) (by decide) (by simp)
theorem tfr (src : BitVec 4) (dst : BitVec 4) : Statement (.tfr src dst) := ofParts (op := [0x1F]) (ext := [src ++ dst]) rfl (by decide) (by decide) (by decide) (by simp)
theorem bra (off : Byte) : Statement (.bra off) := ofParts (op := [0x20]) (ext := [off]) rfl (by decide) (by decide) (by decide) (by simp)
theorem brn (off : Byte) : Statement (.brn off) := ofParts (op := [0x21]) (ext := [off]) rfl (by decide) (by decide) (by decide) (by simp)
theorem bhi (off : Byte) : Statement (.bhi off) := ofParts (op := [0x22]) (ext := [off]) rfl (by decide) (by decide) (by decide) (by simp)
theorem bls (off : Byte) : Statement (.bls off) := ofParts (op := [0x23]) (ext := [off]) rfl (by decide) (by decide) (by decide) (by simp)
theorem bcc (off : Byte) : Statement (.bcc off) := ofParts (op := [0x24]) (ext := [off]) rfl (by decide) (by decide) (by decide) (by simp)
theorem bcs (off : Byte) : Statement (.bcs off) := ofParts (op := [0x25]) (ext := [off]) rfl (by decide) (by decide) (by decide) (by simp)
theorem bne (off : Byte) : Statement (.bne off) := ofParts (op := [0x26]) (ext := [off]) rfl (by decide) (by decide) (by decide) (by simp)
theorem beq (off : Byte) : Statement (.beq off) := ofParts (op := [0x27]) (ext := [off]) rfl (by decide) (by decide) (by decide) (by simp)
theorem bvc (off : Byte) : Statement (.bvc off) := ofParts (op := [0x28]) (ext := [off]) rfl (by decide) (by decide) (by decide) (by simp)
theorem bvs (off : Byte) : Statement (.bvs off) := ofParts (op := [0x29]) (ext := [off]) rfl (by decide) (by decide) (by decide) (by simp)
theorem bpl (off : Byte) : Statement (.bpl off) := ofParts (op := [0x2A]) (ext := [off]) rfl (by decide) (by decide) (by decide) (by simp)
theorem bmi (off : Byte) : Statement (.bmi off) := ofParts (op := [0x2B]) (ext := [off]) rfl (by decide) (by decide) (by decide) (by simp)
theorem bge (off : Byte) : Statement (.bge off) := ofParts (op := [0x2C]) (ext := [off]) rfl (by decide) (by decide) (by decide) (by simp)
theorem blt (off : Byte) : Statement (.blt off) := ofParts (op := [0x2D]) (ext := [off]) rfl (by decide) (by decide) (by decide) (by simp)
theorem bgt (off : Byte) : Statement (.bgt off) := ofParts (op := [0x2E]) (ext := [off]) rfl (by decide) (by decide) (by decide) (by simp)
theorem ble (off : Byte) : Statement (.ble off) := ofParts (op := [0x2F]) (ext := [off]) rfl (by decide) (by decide) (by decide) (by simp)
theorem leax (m : Indexed) : Statement (.leax m) := ofParts (op := [0x30]) (ext := m.bytes) rfl (by decide) (by decide) (by decide) (indexed_bytes_length m)
theorem leay (m : Indexed) : Statement (.leay m) := ofParts (op := [0x31]) (ext := m.bytes) rfl (by decide) (by decide) (by decide) (indexed_bytes_length m)
theorem leas (m : Indexed) : Statement (.leas m) := ofParts (op := [0x32]) (ext := m.bytes) rfl (by decide) (by decide) (by decide) (indexed_bytes_length m)
theorem leau (m : Indexed) : Statement (.leau m) := ofParts (op := [0x33]) (ext := m.bytes) rfl (by decide) (by decide) (by decide) (indexed_bytes_length m)
theorem pshs (mask : Byte) : Statement (.pshs mask) := ofParts (op := [0x34]) (ext := [mask]) rfl (by decide) (by decide) (by decide) (by simp)
theorem puls (mask : Byte) : Statement (.puls mask) := ofParts (op := [0x35]) (ext := [mask]) rfl (by decide) (by decide) (by decide) (by simp)
theorem pshu (mask : Byte) : Statement (.pshu mask) := ofParts (op := [0x36]) (ext := [mask]) rfl (by decide) (by decide) (by decide) (by simp)
theorem pulu (mask : Byte) : Statement (.pulu mask) := ofParts (op := [0x37]) (ext := [mask]) rfl (by decide) (by decide) (by decide) (by simp)
theorem rts : Statement .rts := ofParts (op := [0x39]) (ext := []) rfl (by decide) (by decide) (by decide) (by simp)
theorem abx : Statement .abx := ofParts (op := [0x3A]) (ext := []) rfl (by decide) (by decide) (by decide) (by simp)
theorem rti : Statement .rti := ofParts (op := [0x3B]) (ext := []) rfl (by decide) (by decide) (by decide) (by simp)
theorem cwai (v : Byte) : Statement (.cwai v) := ofParts (op := [0x3C]) (ext := [v]) rfl (by decide) (by decide) (by decide) (by simp)
theorem mul : Statement .mul := ofParts (op := [0x3D]) (ext := []) rfl (by decide) (by decide) (by decide) (by simp)
theorem swi : Statement .swi := ofParts (op := [0x3F]) (ext := []) rfl (by decide) (by decide) (by decide) (by simp)
theorem nega : Statement .nega := ofParts (op := [0x40]) (ext := []) rfl (by decide) (by decide) (by decide) (by simp)
theorem coma : Statement .coma := ofParts (op := [0x43]) (ext := []) rfl (by decide) (by decide) (by decide) (by simp)
theorem lsra : Statement .lsra := ofParts (op := [0x44]) (ext := []) rfl (by decide) (by decide) (by decide) (by simp)
theorem rora : Statement .rora := ofParts (op := [0x46]) (ext := []) rfl (by decide) (by decide) (by decide) (by simp)
theorem asra : Statement .asra := ofParts (op := [0x47]) (ext := []) rfl (by decide) (by decide) (by decide) (by simp)
theorem asla : Statement .asla := ofParts (op := [0x48]) (ext := []) rfl (by decide) (by decide) (by decide) (by simp)
theorem rola : Statement .rola := ofParts (op := [0x49]) (ext := []) rfl (by decide) (by decide) (by decide) (by simp)
theorem deca : Statement .deca := ofParts (op := [0x4A]) (ext := []) rfl (by decide) (by decide) (by decide) (by simp)
theorem inca : Statement .inca := ofParts (op := [0x4C]) (ext := []) rfl (by decide) (by decide) (by decide) (by simp)
theorem tsta : Statement .tsta := ofParts (op := [0x4D]) (ext := []) rfl (by decide) (by decide) (by decide) (by simp)
theorem clra : Statement .clra := ofParts (op := [0x4F]) (ext := []) rfl (by decide) (by decide) (by decide) (by simp)
theorem negb : Statement .negb := ofParts (op := [0x50]) (ext := []) rfl (by decide) (by decide) (by decide) (by simp)
theorem comb : Statement .comb := ofParts (op := [0x53]) (ext := []) rfl (by decide) (by decide) (by decide) (by simp)
theorem lsrb : Statement .lsrb := ofParts (op := [0x54]) (ext := []) rfl (by decide) (by decide) (by decide) (by simp)
theorem rorb : Statement .rorb := ofParts (op := [0x56]) (ext := []) rfl (by decide) (by decide) (by decide) (by simp)
theorem asrb : Statement .asrb := ofParts (op := [0x57]) (ext := []) rfl (by decide) (by decide) (by decide) (by simp)
theorem aslb : Statement .aslb := ofParts (op := [0x58]) (ext := []) rfl (by decide) (by decide) (by decide) (by simp)
theorem rolb : Statement .rolb := ofParts (op := [0x59]) (ext := []) rfl (by decide) (by decide) (by decide) (by simp)
theorem decb : Statement .decb := ofParts (op := [0x5A]) (ext := []) rfl (by decide) (by decide) (by decide) (by simp)
theorem incb : Statement .incb := ofParts (op := [0x5C]) (ext := []) rfl (by decide) (by decide) (by decide) (by simp)
theorem tstb : Statement .tstb := ofParts (op := [0x5D]) (ext := []) rfl (by decide) (by decide) (by decide) (by simp)
theorem clrb : Statement .clrb := ofParts (op := [0x5F]) (ext := []) rfl (by decide) (by decide) (by decide) (by simp)
theorem suba (m : Src8) : Statement (.suba m) := by
  rcases m with v | (lo | m | addr)
  · exact ofParts (op := [0x80]) (ext := [v]) rfl (by decide) (by decide) (by decide) (by simp)
  · exact ofParts (op := [0x90]) (ext := [lo]) rfl (by decide) (by decide) (by decide) (by simp)
  · exact ofParts (op := [0xA0]) (ext := m.bytes) rfl (by decide) (by decide) (by decide) (indexed_bytes_length m)
  · exact ofParts (op := [0xB0]) (ext := [hiByte addr, loByte addr]) rfl (by decide) (by decide) (by decide) (by simp)
theorem cmpa (m : Src8) : Statement (.cmpa m) := by
  rcases m with v | (lo | m | addr)
  · exact ofParts (op := [0x81]) (ext := [v]) rfl (by decide) (by decide) (by decide) (by simp)
  · exact ofParts (op := [0x91]) (ext := [lo]) rfl (by decide) (by decide) (by decide) (by simp)
  · exact ofParts (op := [0xA1]) (ext := m.bytes) rfl (by decide) (by decide) (by decide) (indexed_bytes_length m)
  · exact ofParts (op := [0xB1]) (ext := [hiByte addr, loByte addr]) rfl (by decide) (by decide) (by decide) (by simp)
theorem sbca (m : Src8) : Statement (.sbca m) := by
  rcases m with v | (lo | m | addr)
  · exact ofParts (op := [0x82]) (ext := [v]) rfl (by decide) (by decide) (by decide) (by simp)
  · exact ofParts (op := [0x92]) (ext := [lo]) rfl (by decide) (by decide) (by decide) (by simp)
  · exact ofParts (op := [0xA2]) (ext := m.bytes) rfl (by decide) (by decide) (by decide) (indexed_bytes_length m)
  · exact ofParts (op := [0xB2]) (ext := [hiByte addr, loByte addr]) rfl (by decide) (by decide) (by decide) (by simp)
theorem subd (m : Src16) : Statement (.subd m) := by
  rcases m with v | (lo | m | addr)
  · exact ofParts (op := [0x83]) (ext := [hiByte v, loByte v]) rfl (by decide) (by decide) (by decide) (by simp)
  · exact ofParts (op := [0x93]) (ext := [lo]) rfl (by decide) (by decide) (by decide) (by simp)
  · exact ofParts (op := [0xA3]) (ext := m.bytes) rfl (by decide) (by decide) (by decide) (indexed_bytes_length m)
  · exact ofParts (op := [0xB3]) (ext := [hiByte addr, loByte addr]) rfl (by decide) (by decide) (by decide) (by simp)
theorem anda (m : Src8) : Statement (.anda m) := by
  rcases m with v | (lo | m | addr)
  · exact ofParts (op := [0x84]) (ext := [v]) rfl (by decide) (by decide) (by decide) (by simp)
  · exact ofParts (op := [0x94]) (ext := [lo]) rfl (by decide) (by decide) (by decide) (by simp)
  · exact ofParts (op := [0xA4]) (ext := m.bytes) rfl (by decide) (by decide) (by decide) (indexed_bytes_length m)
  · exact ofParts (op := [0xB4]) (ext := [hiByte addr, loByte addr]) rfl (by decide) (by decide) (by decide) (by simp)
theorem bita (m : Src8) : Statement (.bita m) := by
  rcases m with v | (lo | m | addr)
  · exact ofParts (op := [0x85]) (ext := [v]) rfl (by decide) (by decide) (by decide) (by simp)
  · exact ofParts (op := [0x95]) (ext := [lo]) rfl (by decide) (by decide) (by decide) (by simp)
  · exact ofParts (op := [0xA5]) (ext := m.bytes) rfl (by decide) (by decide) (by decide) (indexed_bytes_length m)
  · exact ofParts (op := [0xB5]) (ext := [hiByte addr, loByte addr]) rfl (by decide) (by decide) (by decide) (by simp)
theorem lda (m : Src8) : Statement (.lda m) := by
  rcases m with v | (lo | m | addr)
  · exact ofParts (op := [0x86]) (ext := [v]) rfl (by decide) (by decide) (by decide) (by simp)
  · exact ofParts (op := [0x96]) (ext := [lo]) rfl (by decide) (by decide) (by decide) (by simp)
  · exact ofParts (op := [0xA6]) (ext := m.bytes) rfl (by decide) (by decide) (by decide) (indexed_bytes_length m)
  · exact ofParts (op := [0xB6]) (ext := [hiByte addr, loByte addr]) rfl (by decide) (by decide) (by decide) (by simp)
theorem eora (m : Src8) : Statement (.eora m) := by
  rcases m with v | (lo | m | addr)
  · exact ofParts (op := [0x88]) (ext := [v]) rfl (by decide) (by decide) (by decide) (by simp)
  · exact ofParts (op := [0x98]) (ext := [lo]) rfl (by decide) (by decide) (by decide) (by simp)
  · exact ofParts (op := [0xA8]) (ext := m.bytes) rfl (by decide) (by decide) (by decide) (indexed_bytes_length m)
  · exact ofParts (op := [0xB8]) (ext := [hiByte addr, loByte addr]) rfl (by decide) (by decide) (by decide) (by simp)
theorem adca (m : Src8) : Statement (.adca m) := by
  rcases m with v | (lo | m | addr)
  · exact ofParts (op := [0x89]) (ext := [v]) rfl (by decide) (by decide) (by decide) (by simp)
  · exact ofParts (op := [0x99]) (ext := [lo]) rfl (by decide) (by decide) (by decide) (by simp)
  · exact ofParts (op := [0xA9]) (ext := m.bytes) rfl (by decide) (by decide) (by decide) (indexed_bytes_length m)
  · exact ofParts (op := [0xB9]) (ext := [hiByte addr, loByte addr]) rfl (by decide) (by decide) (by decide) (by simp)
theorem ora (m : Src8) : Statement (.ora m) := by
  rcases m with v | (lo | m | addr)
  · exact ofParts (op := [0x8A]) (ext := [v]) rfl (by decide) (by decide) (by decide) (by simp)
  · exact ofParts (op := [0x9A]) (ext := [lo]) rfl (by decide) (by decide) (by decide) (by simp)
  · exact ofParts (op := [0xAA]) (ext := m.bytes) rfl (by decide) (by decide) (by decide) (indexed_bytes_length m)
  · exact ofParts (op := [0xBA]) (ext := [hiByte addr, loByte addr]) rfl (by decide) (by decide) (by decide) (by simp)
theorem adda (m : Src8) : Statement (.adda m) := by
  rcases m with v | (lo | m | addr)
  · exact ofParts (op := [0x8B]) (ext := [v]) rfl (by decide) (by decide) (by decide) (by simp)
  · exact ofParts (op := [0x9B]) (ext := [lo]) rfl (by decide) (by decide) (by decide) (by simp)
  · exact ofParts (op := [0xAB]) (ext := m.bytes) rfl (by decide) (by decide) (by decide) (indexed_bytes_length m)
  · exact ofParts (op := [0xBB]) (ext := [hiByte addr, loByte addr]) rfl (by decide) (by decide) (by decide) (by simp)
theorem cmpx (m : Src16) : Statement (.cmpx m) := by
  rcases m with v | (lo | m | addr)
  · exact ofParts (op := [0x8C]) (ext := [hiByte v, loByte v]) rfl (by decide) (by decide) (by decide) (by simp)
  · exact ofParts (op := [0x9C]) (ext := [lo]) rfl (by decide) (by decide) (by decide) (by simp)
  · exact ofParts (op := [0xAC]) (ext := m.bytes) rfl (by decide) (by decide) (by decide) (indexed_bytes_length m)
  · exact ofParts (op := [0xBC]) (ext := [hiByte addr, loByte addr]) rfl (by decide) (by decide) (by decide) (by simp)
theorem bsr (off : Byte) : Statement (.bsr off) := ofParts (op := [0x8D]) (ext := [off]) rfl (by decide) (by decide) (by decide) (by simp)
theorem ldx (m : Src16) : Statement (.ldx m) := by
  rcases m with v | (lo | m | addr)
  · exact ofParts (op := [0x8E]) (ext := [hiByte v, loByte v]) rfl (by decide) (by decide) (by decide) (by simp)
  · exact ofParts (op := [0x9E]) (ext := [lo]) rfl (by decide) (by decide) (by decide) (by simp)
  · exact ofParts (op := [0xAE]) (ext := m.bytes) rfl (by decide) (by decide) (by decide) (indexed_bytes_length m)
  · exact ofParts (op := [0xBE]) (ext := [hiByte addr, loByte addr]) rfl (by decide) (by decide) (by decide) (by simp)
theorem sta (e : MemForm) : Statement (.sta e) := by
  rcases e with lo | m | addr
  · exact ofParts (op := [0x97]) (ext := [lo]) rfl (by decide) (by decide) (by decide) (by simp)
  · exact ofParts (op := [0xA7]) (ext := m.bytes) rfl (by decide) (by decide) (by decide) (indexed_bytes_length m)
  · exact ofParts (op := [0xB7]) (ext := [hiByte addr, loByte addr]) rfl (by decide) (by decide) (by decide) (by simp)
theorem jsr (e : MemForm) : Statement (.jsr e) := by
  rcases e with lo | m | addr
  · exact ofParts (op := [0x9D]) (ext := [lo]) rfl (by decide) (by decide) (by decide) (by simp)
  · exact ofParts (op := [0xAD]) (ext := m.bytes) rfl (by decide) (by decide) (by decide) (indexed_bytes_length m)
  · exact ofParts (op := [0xBD]) (ext := [hiByte addr, loByte addr]) rfl (by decide) (by decide) (by decide) (by simp)
theorem stx (e : MemForm) : Statement (.stx e) := by
  rcases e with lo | m | addr
  · exact ofParts (op := [0x9F]) (ext := [lo]) rfl (by decide) (by decide) (by decide) (by simp)
  · exact ofParts (op := [0xAF]) (ext := m.bytes) rfl (by decide) (by decide) (by decide) (indexed_bytes_length m)
  · exact ofParts (op := [0xBF]) (ext := [hiByte addr, loByte addr]) rfl (by decide) (by decide) (by decide) (by simp)
theorem subb (m : Src8) : Statement (.subb m) := by
  rcases m with v | (lo | m | addr)
  · exact ofParts (op := [0xC0]) (ext := [v]) rfl (by decide) (by decide) (by decide) (by simp)
  · exact ofParts (op := [0xD0]) (ext := [lo]) rfl (by decide) (by decide) (by decide) (by simp)
  · exact ofParts (op := [0xE0]) (ext := m.bytes) rfl (by decide) (by decide) (by decide) (indexed_bytes_length m)
  · exact ofParts (op := [0xF0]) (ext := [hiByte addr, loByte addr]) rfl (by decide) (by decide) (by decide) (by simp)
theorem cmpb (m : Src8) : Statement (.cmpb m) := by
  rcases m with v | (lo | m | addr)
  · exact ofParts (op := [0xC1]) (ext := [v]) rfl (by decide) (by decide) (by decide) (by simp)
  · exact ofParts (op := [0xD1]) (ext := [lo]) rfl (by decide) (by decide) (by decide) (by simp)
  · exact ofParts (op := [0xE1]) (ext := m.bytes) rfl (by decide) (by decide) (by decide) (indexed_bytes_length m)
  · exact ofParts (op := [0xF1]) (ext := [hiByte addr, loByte addr]) rfl (by decide) (by decide) (by decide) (by simp)
theorem sbcb (m : Src8) : Statement (.sbcb m) := by
  rcases m with v | (lo | m | addr)
  · exact ofParts (op := [0xC2]) (ext := [v]) rfl (by decide) (by decide) (by decide) (by simp)
  · exact ofParts (op := [0xD2]) (ext := [lo]) rfl (by decide) (by decide) (by decide) (by simp)
  · exact ofParts (op := [0xE2]) (ext := m.bytes) rfl (by decide) (by decide) (by decide) (indexed_bytes_length m)
  · exact ofParts (op := [0xF2]) (ext := [hiByte addr, loByte addr]) rfl (by decide) (by decide) (by decide) (by simp)
theorem addd (m : Src16) : Statement (.addd m) := by
  rcases m with v | (lo | m | addr)
  · exact ofParts (op := [0xC3]) (ext := [hiByte v, loByte v]) rfl (by decide) (by decide) (by decide) (by simp)
  · exact ofParts (op := [0xD3]) (ext := [lo]) rfl (by decide) (by decide) (by decide) (by simp)
  · exact ofParts (op := [0xE3]) (ext := m.bytes) rfl (by decide) (by decide) (by decide) (indexed_bytes_length m)
  · exact ofParts (op := [0xF3]) (ext := [hiByte addr, loByte addr]) rfl (by decide) (by decide) (by decide) (by simp)
theorem andb (m : Src8) : Statement (.andb m) := by
  rcases m with v | (lo | m | addr)
  · exact ofParts (op := [0xC4]) (ext := [v]) rfl (by decide) (by decide) (by decide) (by simp)
  · exact ofParts (op := [0xD4]) (ext := [lo]) rfl (by decide) (by decide) (by decide) (by simp)
  · exact ofParts (op := [0xE4]) (ext := m.bytes) rfl (by decide) (by decide) (by decide) (indexed_bytes_length m)
  · exact ofParts (op := [0xF4]) (ext := [hiByte addr, loByte addr]) rfl (by decide) (by decide) (by decide) (by simp)
theorem bitb (m : Src8) : Statement (.bitb m) := by
  rcases m with v | (lo | m | addr)
  · exact ofParts (op := [0xC5]) (ext := [v]) rfl (by decide) (by decide) (by decide) (by simp)
  · exact ofParts (op := [0xD5]) (ext := [lo]) rfl (by decide) (by decide) (by decide) (by simp)
  · exact ofParts (op := [0xE5]) (ext := m.bytes) rfl (by decide) (by decide) (by decide) (indexed_bytes_length m)
  · exact ofParts (op := [0xF5]) (ext := [hiByte addr, loByte addr]) rfl (by decide) (by decide) (by decide) (by simp)
theorem ldb (m : Src8) : Statement (.ldb m) := by
  rcases m with v | (lo | m | addr)
  · exact ofParts (op := [0xC6]) (ext := [v]) rfl (by decide) (by decide) (by decide) (by simp)
  · exact ofParts (op := [0xD6]) (ext := [lo]) rfl (by decide) (by decide) (by decide) (by simp)
  · exact ofParts (op := [0xE6]) (ext := m.bytes) rfl (by decide) (by decide) (by decide) (indexed_bytes_length m)
  · exact ofParts (op := [0xF6]) (ext := [hiByte addr, loByte addr]) rfl (by decide) (by decide) (by decide) (by simp)
theorem eorb (m : Src8) : Statement (.eorb m) := by
  rcases m with v | (lo | m | addr)
  · exact ofParts (op := [0xC8]) (ext := [v]) rfl (by decide) (by decide) (by decide) (by simp)
  · exact ofParts (op := [0xD8]) (ext := [lo]) rfl (by decide) (by decide) (by decide) (by simp)
  · exact ofParts (op := [0xE8]) (ext := m.bytes) rfl (by decide) (by decide) (by decide) (indexed_bytes_length m)
  · exact ofParts (op := [0xF8]) (ext := [hiByte addr, loByte addr]) rfl (by decide) (by decide) (by decide) (by simp)
theorem adcb (m : Src8) : Statement (.adcb m) := by
  rcases m with v | (lo | m | addr)
  · exact ofParts (op := [0xC9]) (ext := [v]) rfl (by decide) (by decide) (by decide) (by simp)
  · exact ofParts (op := [0xD9]) (ext := [lo]) rfl (by decide) (by decide) (by decide) (by simp)
  · exact ofParts (op := [0xE9]) (ext := m.bytes) rfl (by decide) (by decide) (by decide) (indexed_bytes_length m)
  · exact ofParts (op := [0xF9]) (ext := [hiByte addr, loByte addr]) rfl (by decide) (by decide) (by decide) (by simp)
theorem orb (m : Src8) : Statement (.orb m) := by
  rcases m with v | (lo | m | addr)
  · exact ofParts (op := [0xCA]) (ext := [v]) rfl (by decide) (by decide) (by decide) (by simp)
  · exact ofParts (op := [0xDA]) (ext := [lo]) rfl (by decide) (by decide) (by decide) (by simp)
  · exact ofParts (op := [0xEA]) (ext := m.bytes) rfl (by decide) (by decide) (by decide) (indexed_bytes_length m)
  · exact ofParts (op := [0xFA]) (ext := [hiByte addr, loByte addr]) rfl (by decide) (by decide) (by decide) (by simp)
theorem addb (m : Src8) : Statement (.addb m) := by
  rcases m with v | (lo | m | addr)
  · exact ofParts (op := [0xCB]) (ext := [v]) rfl (by decide) (by decide) (by decide) (by simp)
  · exact ofParts (op := [0xDB]) (ext := [lo]) rfl (by decide) (by decide) (by decide) (by simp)
  · exact ofParts (op := [0xEB]) (ext := m.bytes) rfl (by decide) (by decide) (by decide) (indexed_bytes_length m)
  · exact ofParts (op := [0xFB]) (ext := [hiByte addr, loByte addr]) rfl (by decide) (by decide) (by decide) (by simp)
theorem ldd (m : Src16) : Statement (.ldd m) := by
  rcases m with v | (lo | m | addr)
  · exact ofParts (op := [0xCC]) (ext := [hiByte v, loByte v]) rfl (by decide) (by decide) (by decide) (by simp)
  · exact ofParts (op := [0xDC]) (ext := [lo]) rfl (by decide) (by decide) (by decide) (by simp)
  · exact ofParts (op := [0xEC]) (ext := m.bytes) rfl (by decide) (by decide) (by decide) (indexed_bytes_length m)
  · exact ofParts (op := [0xFC]) (ext := [hiByte addr, loByte addr]) rfl (by decide) (by decide) (by decide) (by simp)
theorem ldu (m : Src16) : Statement (.ldu m) := by
  rcases m with v | (lo | m | addr)
  · exact ofParts (op := [0xCE]) (ext := [hiByte v, loByte v]) rfl (by decide) (by decide) (by decide) (by simp)
  · exact ofParts (op := [0xDE]) (ext := [lo]) rfl (by decide) (by decide) (by decide) (by simp)
  · exact ofParts (op := [0xEE]) (ext := m.bytes) rfl (by decide) (by decide) (by decide) (indexed_bytes_length m)
  · exact ofParts (op := [0xFE]) (ext := [hiByte addr, loByte addr]) rfl (by decide) (by decide) (by decide) (by simp)
theorem stb (e : MemForm) : Statement (.stb e) := by
  rcases e with lo | m | addr
  · exact ofParts (op := [0xD7]) (ext := [lo]) rfl (by decide) (by decide) (by decide) (by simp)
  · exact ofParts (op := [0xE7]) (ext := m.bytes) rfl (by decide) (by decide) (by decide) (indexed_bytes_length m)
  · exact ofParts (op := [0xF7]) (ext := [hiByte addr, loByte addr]) rfl (by decide) (by decide) (by decide) (by simp)
theorem std (e : MemForm) : Statement (.std e) := by
  rcases e with lo | m | addr
  · exact ofParts (op := [0xDD]) (ext := [lo]) rfl (by decide) (by decide) (by decide) (by simp)
  · exact ofParts (op := [0xED]) (ext := m.bytes) rfl (by decide) (by decide) (by decide) (indexed_bytes_length m)
  · exact ofParts (op := [0xFD]) (ext := [hiByte addr, loByte addr]) rfl (by decide) (by decide) (by decide) (by simp)
theorem stu (e : MemForm) : Statement (.stu e) := by
  rcases e with lo | m | addr
  · exact ofParts (op := [0xDF]) (ext := [lo]) rfl (by decide) (by decide) (by decide) (by simp)
  · exact ofParts (op := [0xEF]) (ext := m.bytes) rfl (by decide) (by decide) (by decide) (indexed_bytes_length m)
  · exact ofParts (op := [0xFF]) (ext := [hiByte addr, loByte addr]) rfl (by decide) (by decide) (by decide) (by simp)
theorem lbrn (off : Word) : Statement (.lbrn off) := ofParts (op := [0x10, 0x21]) (ext := [hiByte off, loByte off]) rfl (by decide) (by decide) (by decide) (by simp)
theorem lbhi (off : Word) : Statement (.lbhi off) := ofParts (op := [0x10, 0x22]) (ext := [hiByte off, loByte off]) rfl (by decide) (by decide) (by decide) (by simp)
theorem lbls (off : Word) : Statement (.lbls off) := ofParts (op := [0x10, 0x23]) (ext := [hiByte off, loByte off]) rfl (by decide) (by decide) (by decide) (by simp)
theorem lbcc (off : Word) : Statement (.lbcc off) := ofParts (op := [0x10, 0x24]) (ext := [hiByte off, loByte off]) rfl (by decide) (by decide) (by decide) (by simp)
theorem lbcs (off : Word) : Statement (.lbcs off) := ofParts (op := [0x10, 0x25]) (ext := [hiByte off, loByte off]) rfl (by decide) (by decide) (by decide) (by simp)
theorem lbne (off : Word) : Statement (.lbne off) := ofParts (op := [0x10, 0x26]) (ext := [hiByte off, loByte off]) rfl (by decide) (by decide) (by decide) (by simp)
theorem lbeq (off : Word) : Statement (.lbeq off) := ofParts (op := [0x10, 0x27]) (ext := [hiByte off, loByte off]) rfl (by decide) (by decide) (by decide) (by simp)
theorem lbvc (off : Word) : Statement (.lbvc off) := ofParts (op := [0x10, 0x28]) (ext := [hiByte off, loByte off]) rfl (by decide) (by decide) (by decide) (by simp)
theorem lbvs (off : Word) : Statement (.lbvs off) := ofParts (op := [0x10, 0x29]) (ext := [hiByte off, loByte off]) rfl (by decide) (by decide) (by decide) (by simp)
theorem lbpl (off : Word) : Statement (.lbpl off) := ofParts (op := [0x10, 0x2A]) (ext := [hiByte off, loByte off]) rfl (by decide) (by decide) (by decide) (by simp)
theorem lbmi (off : Word) : Statement (.lbmi off) := ofParts (op := [0x10, 0x2B]) (ext := [hiByte off, loByte off]) rfl (by decide) (by decide) (by decide) (by simp)
theorem lbge (off : Word) : Statement (.lbge off) := ofParts (op := [0x10, 0x2C]) (ext := [hiByte off, loByte off]) rfl (by decide) (by decide) (by decide) (by simp)
theorem lblt (off : Word) : Statement (.lblt off) := ofParts (op := [0x10, 0x2D]) (ext := [hiByte off, loByte off]) rfl (by decide) (by decide) (by decide) (by simp)
theorem lbgt (off : Word) : Statement (.lbgt off) := ofParts (op := [0x10, 0x2E]) (ext := [hiByte off, loByte off]) rfl (by decide) (by decide) (by decide) (by simp)
theorem lble (off : Word) : Statement (.lble off) := ofParts (op := [0x10, 0x2F]) (ext := [hiByte off, loByte off]) rfl (by decide) (by decide) (by decide) (by simp)
theorem swi2 : Statement .swi2 := ofParts (op := [0x10, 0x3F]) (ext := []) rfl (by decide) (by decide) (by decide) (by simp)
theorem cmpd (m : Src16) : Statement (.cmpd m) := by
  rcases m with v | (lo | m | addr)
  · exact ofParts (op := [0x10, 0x83]) (ext := [hiByte v, loByte v]) rfl (by decide) (by decide) (by decide) (by simp)
  · exact ofParts (op := [0x10, 0x93]) (ext := [lo]) rfl (by decide) (by decide) (by decide) (by simp)
  · exact ofParts (op := [0x10, 0xA3]) (ext := m.bytes) rfl (by decide) (by decide) (by decide) (indexed_bytes_length m)
  · exact ofParts (op := [0x10, 0xB3]) (ext := [hiByte addr, loByte addr]) rfl (by decide) (by decide) (by decide) (by simp)
theorem cmpy (m : Src16) : Statement (.cmpy m) := by
  rcases m with v | (lo | m | addr)
  · exact ofParts (op := [0x10, 0x8C]) (ext := [hiByte v, loByte v]) rfl (by decide) (by decide) (by decide) (by simp)
  · exact ofParts (op := [0x10, 0x9C]) (ext := [lo]) rfl (by decide) (by decide) (by decide) (by simp)
  · exact ofParts (op := [0x10, 0xAC]) (ext := m.bytes) rfl (by decide) (by decide) (by decide) (indexed_bytes_length m)
  · exact ofParts (op := [0x10, 0xBC]) (ext := [hiByte addr, loByte addr]) rfl (by decide) (by decide) (by decide) (by simp)
theorem ldy (m : Src16) : Statement (.ldy m) := by
  rcases m with v | (lo | m | addr)
  · exact ofParts (op := [0x10, 0x8E]) (ext := [hiByte v, loByte v]) rfl (by decide) (by decide) (by decide) (by simp)
  · exact ofParts (op := [0x10, 0x9E]) (ext := [lo]) rfl (by decide) (by decide) (by decide) (by simp)
  · exact ofParts (op := [0x10, 0xAE]) (ext := m.bytes) rfl (by decide) (by decide) (by decide) (indexed_bytes_length m)
  · exact ofParts (op := [0x10, 0xBE]) (ext := [hiByte addr, loByte addr]) rfl (by decide) (by decide) (by decide) (by simp)
theorem sty (e : MemForm) : Statement (.sty e) := by
  rcases e with lo | m | addr
  · exact ofParts (op := [0x10, 0x9F]) (ext := [lo]) rfl (by decide) (by decide) (by decide) (by simp)
  · exact ofParts (op := [0x10, 0xAF]) (ext := m.bytes) rfl (by decide) (by decide) (by decide) (indexed_bytes_length m)
  · exact ofParts (op := [0x10, 0xBF]) (ext := [hiByte addr, loByte addr]) rfl (by decide) (by decide) (by decide) (by simp)
theorem lds (m : Src16) : Statement (.lds m) := by
  rcases m with v | (lo | m | addr)
  · exact ofParts (op := [0x10, 0xCE]) (ext := [hiByte v, loByte v]) rfl (by decide) (by decide) (by decide) (by simp)
  · exact ofParts (op := [0x10, 0xDE]) (ext := [lo]) rfl (by decide) (by decide) (by decide) (by simp)
  · exact ofParts (op := [0x10, 0xEE]) (ext := m.bytes) rfl (by decide) (by decide) (by decide) (indexed_bytes_length m)
  · exact ofParts (op := [0x10, 0xFE]) (ext := [hiByte addr, loByte addr]) rfl (by decide) (by decide) (by decide) (by simp)
theorem sts (e : MemForm) : Statement (.sts e) := by
  rcases e with lo | m | addr
  · exact ofParts (op := [0x10, 0xDF]) (ext := [lo]) rfl (by decide) (by decide) (by decide) (by simp)
  · exact ofParts (op := [0x10, 0xEF]) (ext := m.bytes) rfl (by decide) (by decide) (by decide) (indexed_bytes_length m)
  · exact ofParts (op := [0x10, 0xFF]) (ext := [hiByte addr, loByte addr]) rfl (by decide) (by decide) (by decide) (by simp)
theorem swi3 : Statement .swi3 := ofParts (op := [0x11, 0x3F]) (ext := []) rfl (by decide) (by decide) (by decide) (by simp)
theorem cmpu (m : Src16) : Statement (.cmpu m) := by
  rcases m with v | (lo | m | addr)
  · exact ofParts (op := [0x11, 0x83]) (ext := [hiByte v, loByte v]) rfl (by decide) (by decide) (by decide) (by simp)
  · exact ofParts (op := [0x11, 0x93]) (ext := [lo]) rfl (by decide) (by decide) (by decide) (by simp)
  · exact ofParts (op := [0x11, 0xA3]) (ext := m.bytes) rfl (by decide) (by decide) (by decide) (indexed_bytes_length m)
  · exact ofParts (op := [0x11, 0xB3]) (ext := [hiByte addr, loByte addr]) rfl (by decide) (by decide) (by decide) (by simp)
theorem cmps (m : Src16) : Statement (.cmps m) := by
  rcases m with v | (lo | m | addr)
  · exact ofParts (op := [0x11, 0x8C]) (ext := [hiByte v, loByte v]) rfl (by decide) (by decide) (by decide) (by simp)
  · exact ofParts (op := [0x11, 0x9C]) (ext := [lo]) rfl (by decide) (by decide) (by decide) (by simp)
  · exact ofParts (op := [0x11, 0xAC]) (ext := m.bytes) rfl (by decide) (by decide) (by decide) (indexed_bytes_length m)
  · exact ofParts (op := [0x11, 0xBC]) (ext := [hiByte addr, loByte addr]) rfl (by decide) (by decide) (by decide) (by simp)

end EncodedLength

end Sys2Proof.Laws
end

