-- ==== Sys2Proof/Tests/Slice0.lean ====
section
/-! SUPPORT. The model's own tests: the checks of WellFormed, a word of every constructor written out from 30_encoding.md
R146 and 40_addressing_modes.md R196, single steps with the results that the spec's examples give, and a witness for the
hypotheses of every statement that has some. -/

namespace Sys2Proof.Tests

open Sys2Proof Sys2Proof.Machine

/-! ### WellFormed: each check refuses an ill-formed term -/

theorem test_wf_tfr_mixed_width : Instr.wf (.tfr 8 1) = false := by decide
theorem test_wf_tfr_undefined_source : Instr.wf (.tfr 6 0) = false := by decide
theorem test_wf_exg_undefined_destination : Instr.wf (.exg 0 12) = false := by decide
theorem test_wf_exg_same_width : Instr.wf (.exg 8 11) = true := by decide
theorem test_wf_reference : Config.reference.wf = true := by decide
theorem test_wf_zero_size_region : busOk (⟨0, .ram⟩ :: referenceMap) = false := by decide
theorem test_wf_map_too_large : busOk (⟨1, .rom⟩ :: referenceMap) = false := by decide
theorem test_wf_no_mmu_block : mmuRegionsOk [⟨8192, .bankWin .one⟩, ⟨8192, .bankWin .two⟩] = false := by decide
theorem test_wf_windows_apart :
    mmuRegionsOk [⟨8192, .bankWin .one⟩, ⟨56, .mmuReg⟩, ⟨8192, .bankWin .two⟩] = false := by decide
theorem test_wf_window_size :
    mmuRegionsOk [⟨4096, .bankWin .one⟩, ⟨8192, .bankWin .two⟩, ⟨56, .mmuReg⟩] = false := by decide
theorem test_wf_register_missing : mmuRegsOk (defaultMmuRegs.drop 1) = false := by decide
theorem test_wf_registers_overlap : mmuRegsOk ((0x01, .bank1Select) :: defaultMmuRegs.drop 1) = false := by decide
theorem test_wf_register_twice : mmuRegsOk ((0x00, .arg1) :: defaultMmuRegs.drop 1) = false := by decide
theorem test_wf_register_outside : mmuRegsOk ((0x37, .bank1Select) :: defaultMmuRegs.drop 1) = false := by decide
theorem test_wf_command_missing : commandsOk (defaultCommands.drop 1) = false := by decide
theorem test_wf_command_code_twice : commandsOk ((0x01, .nop) :: defaultCommands.drop 1) = false := by decide
theorem test_wf_command_twice : commandsOk ((0x00, .size) :: defaultCommands.drop 1) = false := by decide
theorem test_wf_error_none : { Config.reference with errors := { defaultErrors with none := 0x01 } }.tablesOk = false := by decide
theorem test_wf_error_pg_free : { Config.reference with errors := { defaultErrors with pgFree := 0x00 } }.tablesOk = false := by decide

/-! ### Decoding: a word of every constructor -/

/-- The bytes decode to the instruction, all of them. -/
def decodesTo (p : List Byte × Instr) : Bool :=
  match decode p.1 with
  | .ok (i, []) => i == p.2
  | _ => false

theorem test_decode_memory_operations : ([
    ([0x60, 0x84], .neg (.idx (.reg .x false .zero))), ([0x63, 0x3F], .com (.idx (.off5 .y 31))),
    ([0x04, 0x34], .lsr (.dir 0x34)), ([0x66, 0xC8, 0x80], .ror (.idx (.reg .u false (.off8 0x80)))),
    ([0x77, 0x12, 0x34], .asr (.ext 0x1234)), ([0x78, 0x12, 0x34], .asl (.ext 0x1234)),
    ([0x69, 0xF9, 0x12, 0x34], .rol (.idx (.reg .s true (.off16 0x1234)))),
    ([0x6A, 0xE3], .dec (.idx (.reg .s false .preDec2))), ([0x0C, 0x34], .inc (.dir 0x34)),
    ([0x6D, 0x8D, 0xF0, 0x00], .tst (.idx (.pcr16 .x false 0xF000))), ([0x7F, 0x12, 0x34], .clr (.ext 0x1234))].all decodesTo) = true := by decide

theorem test_decode_jumps : ([
    ([0x7E, 0x12, 0x34], .jmp (.ext 0x1234)), ([0x12], .nop), ([0x17, 0xFF, 0xFC], .lbsr 0xFFFC), ([0x39], .rts),
    ([0x8D, 0xFE], .bsr 0xFE), ([0xBD, 0x12, 0x34], .jsr (.ext 0x1234))].all decodesTo) = true := by decide

theorem test_decode_stack_system : ([
    ([0x13], .sync), ([0x34, 0x96], .pshs 0x96), ([0x35, 0x96], .puls 0x96), ([0x36, 0x96], .pshu 0x96),
    ([0x37, 0x96], .pulu 0x96), ([0x3B], .rti), ([0x3C, 0xAF], .cwai 0xAF), ([0x3F], .swi), ([0x10, 0x3F], .swi2),
    ([0x11, 0x3F], .swi3)].all decodesTo) = true := by decide

theorem test_decode_long_branches : ([
    ([0x16, 0xFF, 0xFC], .lbra 0xFFFC), ([0x10, 0x21, 0xFF, 0xFC], .lbrn 0xFFFC),
    ([0x10, 0x22, 0xFF, 0xFC], .lbhi 0xFFFC), ([0x10, 0x23, 0xFF, 0xFC], .lbls 0xFFFC),
    ([0x10, 0x24, 0xFF, 0xFC], .lbcc 0xFFFC), ([0x10, 0x25, 0xFF, 0xFC], .lbcs 0xFFFC),
    ([0x10, 0x26, 0xFF, 0xFC], .lbne 0xFFFC), ([0x10, 0x27, 0xFF, 0xFC], .lbeq 0xFFFC),
    ([0x10, 0x28, 0xFF, 0xFC], .lbvc 0xFFFC), ([0x10, 0x29, 0xFF, 0xFC], .lbvs 0xFFFC),
    ([0x10, 0x2A, 0xFF, 0xFC], .lbpl 0xFFFC), ([0x10, 0x2B, 0xFF, 0xFC], .lbmi 0xFFFC),
    ([0x10, 0x2C, 0xFF, 0xFC], .lbge 0xFFFC), ([0x10, 0x2D, 0xFF, 0xFC], .lblt 0xFFFC),
    ([0x10, 0x2E, 0xFF, 0xFC], .lbgt 0xFFFC), ([0x10, 0x2F, 0xFF, 0xFC], .lble 0xFFFC)].all decodesTo) = true := by decide

theorem test_decode_transfers_inherent : ([
    ([0x19], .daa), ([0x1A, 0xAF], .orcc 0xAF), ([0x1C, 0xAF], .andcc 0xAF), ([0x1D], .sex),
    ([0x1E, 0x8B], .exg 8 11), ([0x1F, 0x8B], .tfr 8 11), ([0x30, 0x9F, 0x20, 0x00], .leax (.extInd 0x2000)),
    ([0x31, 0xA0], .leay (.postInc1 .y)), ([0x32, 0x9B], .leas (.reg .x true .accD)),
    ([0x33, 0x9C, 0x10], .leau (.pcr8 .x true 0x10)), ([0x3A], .abx), ([0x3D], .mul)].all decodesTo) = true := by decide

theorem test_decode_short_branches : ([
    ([0x20, 0xFE], .bra 0xFE), ([0x21, 0xFE], .brn 0xFE), ([0x22, 0xFE], .bhi 0xFE), ([0x23, 0xFE], .bls 0xFE),
    ([0x24, 0xFE], .bcc 0xFE), ([0x25, 0xFE], .bcs 0xFE), ([0x26, 0xFE], .bne 0xFE), ([0x27, 0xFE], .beq 0xFE),
    ([0x28, 0xFE], .bvc 0xFE), ([0x29, 0xFE], .bvs 0xFE), ([0x2A, 0xFE], .bpl 0xFE), ([0x2B, 0xFE], .bmi 0xFE),
    ([0x2C, 0xFE], .bge 0xFE), ([0x2D, 0xFE], .blt 0xFE), ([0x2E, 0xFE], .bgt 0xFE), ([0x2F, 0xFE], .ble 0xFE)].all decodesTo) = true := by decide

theorem test_decode_accumulator_operations : ([
    ([0x40], .nega), ([0x43], .coma), ([0x44], .lsra), ([0x46], .rora), ([0x47], .asra), ([0x48], .asla),
    ([0x49], .rola), ([0x4A], .deca), ([0x4C], .inca), ([0x4D], .tsta), ([0x4F], .clra), ([0x50], .negb),
    ([0x53], .comb), ([0x54], .lsrb), ([0x56], .rorb), ([0x57], .asrb)].all decodesTo) = true := by decide

theorem test_decode_accumulator_operations_2 : ([
    ([0x58], .aslb), ([0x59], .rolb), ([0x5A], .decb), ([0x5C], .incb), ([0x5D], .tstb), ([0x5F], .clrb)].all decodesTo) = true := by decide

theorem test_decode_adds_subtracts : ([
    ([0x90, 0x34], .suba (.mem (.dir 0x34))), ([0xB2, 0x12, 0x34], .sbca (.mem (.ext 0x1234))),
    ([0x83, 0x12, 0x34], .subd (.imm 0x1234)), ([0xB9, 0x12, 0x34], .adca (.mem (.ext 0x1234))),
    ([0xAB, 0x91], .adda (.mem (.idx (.reg .x true .postInc2)))), ([0xC0, 0x5A], .subb (.imm 0x5A)),
    ([0xE2, 0xC8, 0x80], .sbcb (.mem (.idx (.reg .u false (.off8 0x80))))),
    ([0xF3, 0x12, 0x34], .addd (.mem (.ext 0x1234))), ([0xE9, 0xE3], .adcb (.mem (.idx (.reg .s false .preDec2)))),
    ([0xDB, 0x34], .addb (.mem (.dir 0x34)))].all decodesTo) = true := by decide

theorem test_decode_compares : ([
    ([0xA1, 0xC2], .cmpa (.mem (.idx (.preDec1 .u)))), ([0x9C, 0x34], .cmpx (.mem (.dir 0x34))),
    ([0xD1, 0x34], .cmpb (.mem (.dir 0x34))), ([0x10, 0xA3, 0xA0], .cmpd (.mem (.idx (.postInc1 .y)))),
    ([0x10, 0xBC, 0x12, 0x34], .cmpy (.mem (.ext 0x1234))), ([0x11, 0xB3, 0x12, 0x34], .cmpu (.mem (.ext 0x1234))),
    ([0x11, 0x8C, 0x12, 0x34], .cmps (.imm 0x1234))].all decodesTo) = true := by decide

theorem test_decode_logic : ([
    ([0xA4, 0xB5], .anda (.mem (.idx (.reg .y true .accB)))), ([0x85, 0x5A], .bita (.imm 0x5A)),
    ([0xA8, 0xE6], .eora (.mem (.idx (.reg .s false .accA)))), ([0xBA, 0x12, 0x34], .ora (.mem (.ext 0x1234))),
    ([0xF4, 0x12, 0x34], .andb (.mem (.ext 0x1234))),
    ([0xE5, 0xF9, 0x12, 0x34], .bitb (.mem (.idx (.reg .s true (.off16 0x1234))))),
    ([0xD8, 0x34], .eorb (.mem (.dir 0x34))), ([0xFA, 0x12, 0x34], .orb (.mem (.ext 0x1234)))].all decodesTo) = true := by decide

theorem test_decode_loads : ([
    ([0x96, 0x34], .lda (.mem (.dir 0x34))), ([0xAE, 0x84], .ldx (.mem (.idx (.reg .x false .zero)))),
    ([0xC6, 0x5A], .ldb (.imm 0x5A)), ([0xEC, 0x8D, 0xF0, 0x00], .ldd (.mem (.idx (.pcr16 .x false 0xF000)))),
    ([0xFE, 0x12, 0x34], .ldu (.mem (.ext 0x1234))), ([0x10, 0x8E, 0x12, 0x34], .ldy (.imm 0x1234)),
    ([0x10, 0xFE, 0x12, 0x34], .lds (.mem (.ext 0x1234)))].all decodesTo) = true := by decide

theorem test_decode_stores : ([
    ([0xB7, 0x12, 0x34], .sta (.ext 0x1234)), ([0xAF, 0x3F], .stx (.idx (.off5 .y 31))),
    ([0xD7, 0x34], .stb (.dir 0x34)), ([0xED, 0x9F, 0x20, 0x00], .std (.idx (.extInd 0x2000))),
    ([0xFF, 0x12, 0x34], .stu (.ext 0x1234)), ([0x10, 0xAF, 0x9B], .sty (.idx (.reg .x true .accD))),
    ([0x10, 0xDF, 0x34], .sts (.dir 0x34))].all decodesTo) = true := by decide

theorem test_decode_unmapped : decode [0x87] = .error (.rejected (.invalidOpcode 0x0087)) := by rfl
theorem test_decode_prefix_twice : decode [0x10, 0x10, 0x8E] = .error (.rejected (.invalidOpcode 0x1010)) := by rfl
theorem test_decode_bad_postbyte : decode [0xA6, 0x90] = .error (.rejected (.invalidPostbyte 0x90)) := by rfl
theorem test_decode_truncated : decode [0xB6, 0x12] = .error .truncated := by rfl

/-! ### One step from the start state of 95_test_vectors.md section 1 -/

/-- The default start state. -/
def start : State :=
  { State.reset with u := 0x7000, sp := 0x8000, cc := CC.ofByte 0x00, pc := 0x1000, nmiDisabled := false }

/-- One step with these bytes at PC meets a condition. -/
def after (s : State) (code : List Byte) (p : State → Bool) : Bool :=
  match step (s.hostLoad s.pc code) with
  | .next t => p t
  | _ => false

theorem test_lda :
    after { start with a := 0x55, cc := CC.ofByte 0x0B } [0x86, 0x00]
      (fun t => t.a == 0x00 && t.cc.toByte == 0x05 && t.pc == 0x1002) = true := by decide

theorem test_ldd :
    after (({ start with sp := 0x0001 }.hostLoad 0xFFFF [0x44]).hostLoad 0x0000 [0x55]) [0xEC, 0xE3]
      (fun t => t.a == 0x44 && t.b == 0x55 && t.sp == 0xFFFF && t.cc.toByte == 0x00 && t.pc == 0x1002) = true := by decide

theorem test_ldy :
    after start [0x10, 0x8E, 0x80, 0x00]
      (fun t => t.y == 0x8000 && t.cc.toByte == 0x08 && t.pc == 0x1004) = true := by decide

theorem test_lds :
    after start [0x10, 0xCE, 0x00, 0x00]
      (fun t => t.sp == 0x0000 && t.cc.toByte == 0x04 && t.pc == 0x1004) = true := by decide

theorem test_sta :
    after { start with a := 0x80, cc := CC.ofByte 0x03 } [0xB7, 0x20, 0x00]
      (fun t => t.cc.toByte == 0x09 && t.pc == 0x1003 && t.peek 0x2000 == some 0x80) = true := by decide

theorem test_std :
    after { start with a := 0x12, b := 0x34, y := 0x2002 } [0xED, 0xA3]
      (fun t => t.y == 0x2000 && t.cc.toByte == 0x00 && t.pc == 0x1002 && t.peek 0x2000 == some 0x12 && t.peek 0x2001 == some 0x34) = true := by decide

theorem test_stx :
    after { start with x := 0x1234 } [0xBF, 0xF8, 0x00]
      (fun t => t.cc.toByte == 0x00 && t.pc == 0x1003) = true := by decide

theorem test_leax :
    after { start with x := 0x0000, cc := CC.ofByte 0x00 } [0x30, 0x84]
      (fun t => t.cc.toByte == 0x04 && t.pc == 0x1002) = true := by decide

theorem test_leas :
    after { start with cc := CC.ofByte 0x04 } [0x32, 0x7E]
      (fun t => t.sp == 0x7FFE && t.cc.toByte == 0x04 && t.pc == 0x1002) = true := by decide

theorem test_tfr :
    after { start with a := 0x80, cc := CC.ofByte 0x04 } [0x1F, 0x89]
      (fun t => t.b == 0x80 && t.cc.toByte == 0x04 && t.pc == 0x1002) = true := by decide

theorem test_exg :
    after { start with a := 0x12, b := 0x34, x := 0xABCD } [0x1E, 0x01]
      (fun t => t.a == 0xAB && t.b == 0xCD && t.x == 0x1234 && t.cc.toByte == 0x00 && t.pc == 0x1002) = true := by decide

theorem test_adda :
    after { start with a := 0x7F } [0x8B, 0x01]
      (fun t => t.a == 0x80 && t.cc.toByte == 0x2A && t.pc == 0x1002) = true := by decide

theorem test_adcb :
    after { start with b := 0x00, cc := CC.ofByte 0x01 } [0xC9, 0x0F]
      (fun t => t.b == 0x10 && t.cc.toByte == 0x20 && t.pc == 0x1002) = true := by decide

theorem test_suba :
    after { start with a := 0x00 } [0x80, 0x01]
      (fun t => t.a == 0xFF && t.cc.n && !t.cc.z && !t.cc.v && t.cc.c && t.pc == 0x1002) = true := by decide

theorem test_sbca :
    after { start with a := 0x00, cc := CC.ofByte 0x01 } [0x82, 0xFF]
      (fun t => !t.cc.n && t.cc.z && !t.cc.v && t.cc.c && t.pc == 0x1002) = true := by decide

theorem test_cmpa :
    after { start with a := 0x7F } [0x81, 0x80]
      (fun t => t.cc.n && !t.cc.z && t.cc.v && t.cc.c && t.pc == 0x1002) = true := by decide

theorem test_addd :
    after { start with a := 0xFF, b := 0xFF, cc := CC.ofByte 0x20 } [0xC3, 0x00, 0x01]
      (fun t => t.a == 0x00 && t.b == 0x00 && t.cc.toByte == 0x25 && t.pc == 0x1003) = true := by decide

theorem test_subd :
    after { start with a := 0x80, b := 0x00 } [0x83, 0x00, 0x01]
      (fun t => t.a == 0x7F && t.b == 0xFF && t.cc.toByte == 0x02 && t.pc == 0x1003) = true := by decide

theorem test_cmpx :
    after { start with x := 0x0000 } [0x8C, 0x00, 0x01]
      (fun t => t.cc.toByte == 0x09 && t.pc == 0x1003) = true := by decide

theorem test_cmpu :
    after start [0x11, 0x83, 0x70, 0x00]
      (fun t => t.cc.toByte == 0x04 && t.pc == 0x1004) = true := by decide

theorem test_nega :
    after { start with a := 0x80 } [0x40]
      (fun t => t.cc.n && !t.cc.z && t.cc.v && t.cc.c && t.pc == 0x1001) = true := by decide

theorem test_neg :
    after (start.hostLoad 0x2000 [0x01]) [0x70, 0x20, 0x00]
      (fun t => t.cc.n && !t.cc.z && !t.cc.v && t.cc.c && t.pc == 0x1003 && t.peek 0x2000 == some 0xFF) = true := by decide

theorem test_inc :
    after (start.hostLoad 0x0010 [0xFE]) [0x0C, 0x10]
      (fun t => t.cc.toByte == 0x08 && t.pc == 0x1002 && t.peek 0x0010 == some 0xFF) = true := by decide

theorem test_decb :
    after { start with b := 0x00, cc := CC.ofByte 0x01 } [0x5A]
      (fun t => t.b == 0xFF && t.cc.toByte == 0x09 && t.pc == 0x1001) = true := by decide

theorem test_tst :
    after ({ start with cc := CC.ofByte 0x02 }.hostLoad 0x2000 [0x00]) [0x7D, 0x20, 0x00]
      (fun t => t.cc.toByte == 0x04 && t.pc == 0x1003) = true := by decide

theorem test_clr :
    after ({ start with cc := CC.ofByte 0x09 }.hostLoad 0x2000 [0xFF]) [0x7F, 0x20, 0x00]
      (fun t => t.cc.toByte == 0x04 && t.pc == 0x1003 && t.peek 0x2000 == some 0x00) = true := by decide

theorem test_mul :
    after { start with a := 0x10, b := 0x08, cc := CC.ofByte 0x0A } [0x3D]
      (fun t => t.a == 0x00 && t.b == 0x80 && t.cc.toByte == 0x0B && t.pc == 0x1001) = true := by decide

theorem test_daa :
    after { start with a := 0x0F, cc := CC.ofByte 0x20 } [0x19]
      (fun t => t.a == 0x15 && t.cc.h && !t.cc.n && !t.cc.z && !t.cc.c && t.pc == 0x1001) = true := by decide

theorem test_sex :
    after { start with b := 0x80, cc := CC.ofByte 0x02 } [0x1D]
      (fun t => t.a == 0xFF && t.cc.toByte == 0x0A && t.pc == 0x1001) = true := by decide

theorem test_abx :
    after { start with b := 0xFF, x := 0xFF80, cc := CC.ofByte 0x0F } [0x3A]
      (fun t => t.x == 0x007F && t.cc.toByte == 0x0F && t.pc == 0x1001) = true := by decide

theorem test_anda :
    after { start with a := 0xF0, cc := CC.ofByte 0x03 } [0x84, 0x0F]
      (fun t => t.a == 0x00 && t.cc.toByte == 0x05 && t.pc == 0x1002) = true := by decide

theorem test_orb :
    after { start with b := 0x01 } [0xCA, 0x80]
      (fun t => t.b == 0x81 && t.cc.toByte == 0x08 && t.pc == 0x1002) = true := by decide

theorem test_eora :
    after { start with a := 0xFF } [0x88, 0xFF]
      (fun t => t.a == 0x00 && t.cc.toByte == 0x04 && t.pc == 0x1002) = true := by decide

theorem test_bitb :
    after ({ start with b := 0x0F }.hostLoad 0x2000 [0xF0]) [0xF5, 0x20, 0x00]
      (fun t => t.cc.toByte == 0x04 && t.pc == 0x1003) = true := by decide

theorem test_com :
    after (start.hostLoad 0x2000 [0xFF]) [0x73, 0x20, 0x00]
      (fun t => t.cc.toByte == 0x05 && t.pc == 0x1003 && t.peek 0x2000 == some 0x00) = true := by decide

theorem test_lsr :
    after (start.hostLoad 0x0020 [0x80]) [0x04, 0x20]
      (fun t => t.cc.toByte == 0x00 && t.pc == 0x1002 && t.peek 0x0020 == some 0x40) = true := by decide

theorem test_asra :
    after { start with a := 0x81 } [0x47]
      (fun t => t.a == 0xC0 && t.cc.n && !t.cc.z && !t.cc.v && t.cc.c && t.pc == 0x1001) = true := by decide

theorem test_asla :
    after { start with a := 0x40 } [0x48]
      (fun t => t.a == 0x80 && t.cc.n && !t.cc.z && t.cc.v && !t.cc.c && t.pc == 0x1001) = true := by decide

theorem test_rola :
    after { start with a := 0x80, cc := CC.ofByte 0x01 } [0x49]
      (fun t => t.a == 0x01 && t.cc.toByte == 0x03 && t.pc == 0x1001) = true := by decide

theorem test_ror :
    after ({ start with x := 0x2000, cc := CC.ofByte 0x01 }.hostLoad 0x2000 [0x02]) [0x66, 0x84]
      (fun t => t.cc.toByte == 0x08 && t.pc == 0x1002 && t.peek 0x2000 == some 0x81) = true := by decide

theorem test_andcc :
    after { start with cc := CC.ofByte 0xFF } [0x1C, 0xAF]
      (fun t => t.cc.toByte == 0xAF && t.pc == 0x1002) = true := by decide

theorem test_orcc :
    after { start with cc := CC.ofByte 0x00 } [0x1A, 0x50]
      (fun t => t.cc.toByte == 0x50 && t.pc == 0x1002) = true := by decide

theorem test_bra :
    after start [0x20, 0x7F]
      (fun t => t.cc.toByte == 0x00 && t.pc == 0x1081) = true := by decide

theorem test_brn :
    after start [0x21, 0x10]
      (fun t => t.cc.toByte == 0x00 && t.pc == 0x1002) = true := by decide

theorem test_bhi :
    after { start with cc := CC.ofByte 0x04 } [0x22, 0x10]
      (fun t => t.cc.toByte == 0x04 && t.pc == 0x1002) = true := by decide

theorem test_bge :
    after { start with cc := CC.ofByte 0x0A } [0x2C, 0x10]
      (fun t => t.cc.toByte == 0x0A && t.pc == 0x1012) = true := by decide

theorem test_ble :
    after { start with cc := CC.ofByte 0x04 } [0x2F, 0x10]
      (fun t => t.cc.toByte == 0x04 && t.pc == 0x1012) = true := by decide

theorem test_lbeq :
    after { start with cc := CC.ofByte 0x04 } [0x10, 0x27, 0x01, 0x00]
      (fun t => t.cc.toByte == 0x04 && t.pc == 0x1104) = true := by decide

theorem test_lbra :
    after start [0x16, 0x80, 0x00]
      (fun t => t.cc.toByte == 0x00 && t.pc == 0x9003) = true := by decide

theorem test_lbsr :
    after start [0x17, 0xF0, 0x00]
      (fun t => t.sp == 0x7FFE && t.cc.toByte == 0x00 && t.pc == 0x0003 && t.peek 0x7FFF == some 0x03 && t.peek 0x7FFE == some 0x10) = true := by decide

theorem test_bsr :
    after start [0x8D, 0x10]
      (fun t => t.sp == 0x7FFE && t.cc.toByte == 0x00 && t.pc == 0x1012 && t.peek 0x7FFF == some 0x02 && t.peek 0x7FFE == some 0x10) = true := by decide

theorem test_jsr :
    after start [0xBD, 0x20, 0x00]
      (fun t => t.sp == 0x7FFE && t.cc.toByte == 0x00 && t.pc == 0x2000 && t.peek 0x7FFF == some 0x03 && t.peek 0x7FFE == some 0x10) = true := by decide

theorem test_jmp :
    after (start.hostLoad 0xF800 [0x20, 0x00]) [0x6E, 0x9F, 0xF8, 0x00]
      (fun t => t.cc.toByte == 0x00 && t.pc == 0x2000) = true := by decide

theorem test_rts :
    after ({ start with sp := 0x7FFE }.hostLoad 0x7FFE [0x12, 0x34]) [0x39]
      (fun t => t.sp == 0x8000 && t.cc.toByte == 0x00 && t.pc == 0x1234) = true := by decide

theorem test_pshs :
    after { start with a := 0x11, b := 0x22, x := 0x3344, y := 0x5566, u := 0x7788, dp := 0x99, cc := CC.ofByte 0xAA } [0x34, 0xFF]
      (fun t => t.sp == 0x7FF4 && t.cc.toByte == 0xAA && t.pc == 0x1002 && t.peek 0x7FFF == some 0x02 && t.peek 0x7FFE == some 0x10 && t.peek 0x7FF4 == some 0xAA) = true := by decide

theorem test_pshu :
    after { start with a := 0x11, b := 0x22, x := 0x3344, y := 0x5566, dp := 0x99, cc := CC.ofByte 0xAA } [0x36, 0xFF]
      (fun t => t.u == 0x6FF4 && t.cc.toByte == 0xAA && t.pc == 0x1002 && t.peek 0x6FFF == some 0x02 && t.peek 0x6FFE == some 0x10 && t.peek 0x6FF4 == some 0xAA) = true := by decide

theorem test_puls :
    after ({ start with sp := 0x7FF4 }.hostLoad 0x7FF4 [0xAA, 0x11, 0x22, 0x99, 0x33, 0x44, 0x55, 0x66, 0x77, 0x88, 0x20, 0x00]) [0x35, 0xFF]
      (fun t => t.a == 0x11 && t.b == 0x22 && t.x == 0x3344 && t.y == 0x5566 && t.u == 0x7788 && t.sp == 0x8000 && t.dp == 0x99 && t.cc.toByte == 0xAA && t.pc == 0x2000) = true := by decide

theorem test_pulu :
    after ({ start with u := 0x2000 }.hostLoad 0x2000 [0x40, 0x00]) [0x37, 0x40]
      (fun t => t.u == 0x2002 && t.sp == 0x4000 && t.cc.toByte == 0x00 && t.pc == 0x1002) = true := by decide

theorem test_swi :
    after ({ start with a := 0x11, b := 0x22, x := 0x3344, y := 0x5566, u := 0x7788, dp := 0x99, cc := CC.ofByte 0xAA }.hostLoad 0xFFFA [0x20, 0x00]) [0x3F]
      (fun t => t.sp == 0x7FF4 && t.cc.toByte == 0xFA && t.pc == 0x2000 && t.peek 0x7FFF == some 0x01 && t.peek 0x7FFE == some 0x10 && t.peek 0x7FF4 == some 0xAA) = true := by decide

theorem test_swi2 :
    after ({ start with cc := CC.ofByte 0x00 }.hostLoad 0xFFF4 [0x21, 0x00]) [0x10, 0x3F]
      (fun t => t.sp == 0x7FF4 && t.cc.toByte == 0x80 && t.pc == 0x2100 && t.peek 0x7FFF == some 0x02 && t.peek 0x7FFE == some 0x10 && t.peek 0x7FF4 == some 0x80) = true := by decide

theorem test_swi3 :
    after ({ start with cc := CC.ofByte 0x50 }.hostLoad 0xFFF2 [0x22, 0x00]) [0x11, 0x3F]
      (fun t => t.sp == 0x7FF4 && t.cc.toByte == 0xD0 && t.pc == 0x2200 && t.peek 0x7FFF == some 0x02 && t.peek 0x7FFE == some 0x10 && t.peek 0x7FF4 == some 0xD0) = true := by decide

theorem test_rti :
    after ({ start with sp := 0x7FF4 }.hostLoad 0x7FF4 [0x85, 0x11, 0x22, 0x99, 0x33, 0x44, 0x55, 0x66, 0x77, 0x88, 0x20, 0x00]) [0x3B]
      (fun t => t.a == 0x11 && t.b == 0x22 && t.x == 0x3344 && t.y == 0x5566 && t.u == 0x7788 && t.sp == 0x8000 && t.dp == 0x99 && t.cc.toByte == 0x85 && t.pc == 0x2000) = true := by decide

theorem test_cwai :
    after { start with cc := CC.ofByte 0x55 } [0x3C, 0xEF]
      (fun t => t.sp == 0x7FF4 && t.cc.toByte == 0xC5 && t.pc == 0x1002 && t.peek 0x7FFF == some 0x02 && t.peek 0x7FFE == some 0x10 && t.peek 0x7FF4 == some 0xC5) = true := by decide

theorem test_sync :
    after { start with cc := CC.ofByte 0x55 } [0x13]
      (fun t => t.cc.toByte == 0x55 && t.pc == 0x1001) = true := by decide

theorem test_nop :
    after { start with cc := CC.ofByte 0xFF } [0x12]
      (fun t => t.cc.toByte == 0xFF && t.pc == 0x1001) = true := by decide

/-! ### Faults, interrupts, reset (60_exceptions.md, 95_test_vectors.md sections 3.7 and 3.9) -/

theorem test_fault_unmapped :
    after start [0x01] (fun t => t.fault == some ⟨.invalidOpcode, 0x0001, 0x1000⟩ && t.pc == 0x1001 && t.busy == 0)
      = true := by decide

theorem test_fault_prefix_twice :
    after start [0x10, 0x10, 0x8E] (fun t => t.fault == some ⟨.invalidOpcode, 0x1010, 0x1000⟩ && t.pc == 0x1002)
      = true := by decide

theorem test_fault_postbyte :
    after { start with x := 0x2000 } [0xA6, 0x90]
      (fun t => t.fault == some ⟨.invalidPostbyte, 0x0090, 0x1000⟩ && t.pc == 0x1002 && t.x == 0x2000) = true := by decide

theorem test_fault_transfer :
    after { start with a := 0x12 } [0x1F, 0x81]
      (fun t => t.fault == some ⟨.invalidPostbyte, 0x0081, 0x1000⟩ && t.pc == 0x1002 && t.x == 0) = true := by decide

/-- The start state of the interrupt examples. -/
def vectored : State :=
  ((({ start with a := 0x11, b := 0x22, x := 0x3344, y := 0x5566, u := 0x7010 }.hostLoad 0xFFFC [0x40, 0x00]).hostLoad
    0xFFF8 [0x20, 0x00]).hostLoad 0xFFF6 [0x30, 0x00])

theorem test_irq_entry :
    after { vectored with cc := CC.ofByte 0x05, irqN := false } [0x12]
      (fun t => t.sp == 0x7FF4 && t.cc.toByte == 0xD5 && t.pc == 0x2000 && t.peek 0x7FF4 == some 0x85 &&
        t.peek 0x7FFF == some 0x00 && t.peek 0x7FFE == some 0x10) = true := by decide

theorem test_firq_entry :
    after { vectored with cc := CC.ofByte 0x85, firqN := false } [0x12]
      (fun t => t.sp == 0x7FFD && t.cc.toByte == 0x55 && t.pc == 0x3000 && t.peek 0x7FFD == some 0x05) = true := by decide

theorem test_nmi_before_irq :
    after { vectored with nmiN := false, irqN := false } [0x12]
      (fun t => t.sp == 0x7FF4 && t.cc.toByte == 0xD0 && t.pc == 0x4000 && t.nmiHist == false) = true := by decide

theorem test_nmi_disabled :
    after { vectored with nmiN := false, nmiDisabled := true } [0x12]
      (fun t => t.sp == 0x8000 && t.pc == 0x1001 && t.nmiHist == false) = true := by decide

theorem test_sync_masked_line :
    after { vectored with cc := CC.ofByte 0x50, irqN := false, wait := .sync } [0x4C]
      (fun t => t.a == 0x12 && t.pc == 0x1001 && t.wait == .normal) = true := by decide

theorem test_cwai_entry :
    after { vectored with cc := CC.ofByte 0xC5, sp := 0x7FF4, irqN := false, wait := .cwai } [0x12]
      (fun t => t.sp == 0x7FF4 && t.cc.toByte == 0xD5 && t.pc == 0x2000) = true := by decide

/-- 70_reset_and_hazards.md R580. -/
theorem test_reset_input :
    (let t := ({ start with cc := CC.ofByte 0x05 }.hostLoad 0xFFFE [0xF1, 0x00]).resetInput;
      t.pc == 0xF100 && t.cc.toByte == 0x55 && t.nmiDisabled) = true := by decide

/-- 20_memory.md R99: the bypass path does not write a ROM, the entry point for ROM does, and the loader uses it. -/
theorem test_write_to_rom :
    ((start.hostWrite 0xFFFE 0x5A).hostRead 0xFFFE == some 0x00 && (start.hostWriteRom 0xFFFE 0x5A).hostRead 0xFFFE == some 0x5A &&
      (start.hostWriteRom 0x2000 0x5A).hostRead 0x2000 == some 0x00 && (start.hostLoadByte 0xFFFE 0x5A).rom == [(0xFFFE, 0x5A)])
      = true := by decide

theorem test_first_instruction_after_reset :
    (match step (State.reset.withFetchWord 8 0x4C) with
      | .next t => t.a == 0x01 && t.pc == 0x0001
      | _ => false) = true := by decide

/-! ### The bus and the MMU (20_memory.md R81; 49_mmu_commands.md R473, R474; 95_test_vectors.md S8, S9 and section 3.8) -/

/-- A store to COMMAND with the arguments in place. -/
def command (m : Mmu) (v : Byte) : Mmu := m.dispatch Config.reference v

/-- After ALLOC of 5 nodes. -/
def five : Mmu := command { Mmu.construct with arg1 := 5 } 0x03

theorem test_alloc_five :
    (five.arg1 == 0 && five.rawIndex == 0 && five.error == 0 && five.blocksFree == 52423 &&
      five.chainOf 0 == [0, 1, 2, 3, 4] && (five.node 4).prev == 3) = true := by decide

theorem test_free_five :
    (let m := command five 0x04;
      m.arg1 == 0xFFFF && m.blocksFree == 52428 && m.blocksAllocated == 0 && m.pool == []) = true := by decide

theorem test_alloc_fragments :
    (let m := command { command { five with arg1 := 3 } 0x03 with arg1 := 0 } 0x04;
      let m := command { m with arg1 := 7 } 0x03;
      m.chainOf 0 == [0, 1, 2, 3, 4, 8, 9] && (m.node 8).status == 0x09 && m.blocksFragged == 1) = true := by decide

theorem test_delete_head :
    (let m := command five 0x09;
      m.arg1 == 1 && m.rawIndex == 1 && m.chainOf 1 == [1, 2, 3, 4] && (m.node 4).root == 1) = true := by decide

theorem test_cursor_on_free_node :
    (let m := command { five with rawIndex := 100 } 0x05;
      m.error == 0x09 && m.command == 0 && m.rawIndex == 100) = true := by decide

theorem test_unknown_code : (command five 0x15).error = 0x06 := by decide

/-- STA to COMMAND runs the command inside the store (10_state.md R64). -/
theorem test_store_dispatches :
    after { start with a := 0x03, mmu := { Mmu.construct with arg1 := 2 } } [0xB7, 0xF0, 0x0E]
      (fun t => t.mmu.blocksAllocated == 2 && t.mmu.command == 0x03) = true := by decide

theorem test_window_reads_node :
    after { start with mmu := { (five.setData 1 2 0x5A) with bankSel1 := 0 } } [0xB6, 0xB0, 0x22]
      (fun t => t.a == 0x5A && t.mmu.error == 0) = true := by decide

/-- Past the chain: ERROR is BANK and the byte is not specified. -/
theorem test_window_past_chain :
    after { start with mmu := { five with bankSel1 := 0 } } [0xB6, 0xB0, 0xA0]
      (fun t => t.mmu.error == 0x0B && t.mmu.command == 0) = true := by decide

/-! ### Witnesses: the hypotheses of a statement, met together -/

/-- An evaluating state with NOP, LDA and more at PC. -/
def ready : State := start.hostLoad 0x1000 [0x12]

theorem ready_evaluates : ready.Evaluates := ⟨by decide, by decide, by decide, by decide⟩

theorem ready_no_interrupt : ready.NoInterrupt := by unfold State.NoInterrupt; decide

theorem witness_EncodeDecode : decode [0x10, 0xAE, 0x89, 0x12, 0x34, 0x12]
    = .ok (.ldy (.mem (.idx (.reg .x false (.off16 0x1234)))), [0x12]) := by rfl

theorem witness_UndefinedEncodings :
    (0x01 : Byte).toNat ∈ unmappedPage1 ∧ (0xCF : Byte).toNat ∈ unmappedPage1 ∧
      lookupKey (joinBytes 0x11 0xFF).toNat = none := by decide

theorem witness_StepRunsInstruction :
    ready.Evaluates ∧ ready.wait = .normal ∧ ready.NoInterrupt ∧ decode [0x12] = .ok (.nop, []) ∧
      ready.bytesAt ready.pc [0x12] = true :=
  ⟨ready_evaluates, by decide, ready_no_interrupt, by rfl, by decide⟩

/-- At the top of memory, where the bytes wrap to $0000. -/
theorem witness_StepRunsInstruction_wraps :
    decode [0x86, 0x2A] = .ok (.lda (.imm 0x2A), []) ∧
      ({ start with pc := 0xFFFF }.hostLoad 0xFFFF [0x86, 0x2A]).bytesAt 0xFFFF [0x86, 0x2A] = true :=
  ⟨by rfl, by decide⟩

theorem witness_RejectedBytesFault :
    decode [0x10, 0x10] = .error (.rejected (.invalidOpcode 0x1010)) ∧
      (∀ n < [(0x10 : Byte), 0x10].length, decode ([0x10, 0x10].take n) = .error .truncated) ∧
      (start.hostLoad 0x1000 [0x10, 0x10]).bytesAt 0x1000 [0x10, 0x10] = true ∧
      (start.hostLoad 0x1000 [0x10, 0x10]).Evaluates ∧ (start.hostLoad 0x1000 [0x10, 0x10]).wait = .normal ∧
      (start.hostLoad 0x1000 [0x10, 0x10]).NoInterrupt :=
  ⟨by rfl, fun n h => match n, h with | 0, _ => rfl | 1, _ => rfl | _ + 2, h => by simp at h, by decide,
    ⟨by decide, by decide, by decide, by decide⟩, by decide, by unfold State.NoInterrupt; decide⟩

theorem witness_RejectedBytesFault_postbyte :
    decode [0xA6, 0xFF] = .error (.rejected (.invalidPostbyte 0xFF)) ∧
      (∀ n < [(0xA6 : Byte), 0xFF].length, decode ([0xA6, 0xFF].take n) = .error .truncated) ∧
      (start.hostLoad 0x1000 [0xA6, 0xFF]).bytesAt 0x1000 [0xA6, 0xFF] = true ∧
      (start.hostLoad 0x1000 [0xA6, 0xFF]).Evaluates ∧ (start.hostLoad 0x1000 [0xA6, 0xFF]).wait = .normal ∧
      (start.hostLoad 0x1000 [0xA6, 0xFF]).NoInterrupt :=
  ⟨by rfl, fun n h => match n, h with | 0, _ => rfl | 1, _ => rfl | _ + 2, h => by simp at h, by decide,
    ⟨by decide, by decide, by decide, by decide⟩, by decide, by unfold State.NoInterrupt; decide⟩

theorem witness_TransferFault : start.defragIssued = false ∧ pairRegs 8 1 = none ∧ pairRegs 15 15 = none := by decide

theorem witness_HaltedAndIdleTicks :
    ({ start with fault := some ⟨.invalidOpcode, 1, 0⟩ } : State).fault ≠ none ∧ start.cfg.wf = true ∧
      start.fault = none ∧ 0 < ({ start with busy := 1 } : State).busy := by decide

theorem witness_ResetInput : start.peek 0xFFFE = some 0x00 ∧ start.peek 0xFFFF = some 0x00 ∧ start.cfg.wf = true ∧
    start.defragIssued = false := by decide

theorem witness_StepKeepsSound :
    ready.sound = true ∧ (match step ready with | .next t => t.pc == 0x1001 | _ => false) = true := by decide

theorem witness_StepKeepsConfiguration : ∃ t, step ready = .next t ∧ ready.nmiDisabled = false :=
  ⟨_, rfl, by decide⟩

/-- LDA ,X+ and the register Y. -/
theorem witness_RegisterFrame :
    ∃ t, exec (.lda (.mem (.idx (.postInc1 .x)))) start = .next t ∧
      (∀ p ∈ Instr.destinations (.lda (.mem (.idx (.postInc1 .x)))), Reg.shares .y p = false) ∧
      (∀ r, Instr.autoReg (.lda (.mem (.idx (.postInc1 .x)))) = some r → Reg.y ≠ IdxReg.reg r) ∧
      (Reg.y = .cc → Instr.flagMask (.lda (.mem (.idx (.postInc1 .x)))) = 0x00) ∧
      (Reg.y = .pc → Instr.writesPc (.lda (.mem (.idx (.postInc1 .x)))) = false) :=
  ⟨_, rfl, by decide, fun r h => by cases h; decide, nofun, nofun⟩

theorem witness_FlagFrame :
    ∃ t, exec .mul start = .next t ∧ (Instr.flagMask .mul).getLsbD 1 = false ∧
      (Instr.flagMask .mul).getLsbD 0 = true :=
  ⟨_, rfl, by decide, by decide⟩

theorem witness_ControlFrame :
    ∃ t, exec (.lds (.imm 0x8000)) start = .next t ∧ (Instr.lds (.imm 0x8000)) ≠ .sync ∧
      (∀ v, Instr.lds (.imm 0x8000) ≠ .cwai v) ∧
      ∀ p q, Instr.lds (.imm 0x8000) ≠ .tfr p q ∧ Instr.lds (.imm 0x8000) ≠ .exg p q :=
  ⟨_, rfl, nofun, nofun, fun _ _ => ⟨nofun, nofun⟩⟩

theorem witness_StorelessFrame :
    ∃ t, Instr.storesNothing (.tfr 8 9) = true ∧ exec (.tfr 8 9) start = .next t :=
  ⟨_, by decide, rfl⟩

/-- A word store at the last bytes of RAM, and the bytes on both sides of it. -/
theorem witness_StoreFrame :
    (match exec (.std (.ext 0xAFFE)) start with | .next t => t.peek 0xAFFF == some 0x00 | _ => false) = true ∧
      Instr.storedAt (.std (.ext 0xAFFE)) start = [0xAFFE, 0xAFFF] ∧ start.inRam 0xAFFE = true ∧
      start.inRam 0xAFFF = true ∧ start.inMmuBlock 0xAFFD = false ∧ start.inMmuBlock 0xB000 = false := by decide

theorem witness_NamedStops :
    (match step { start with cfg := { start.cfg with memMap := [] } } with
      | .refused r => r == .illFormedConfiguration
      | _ => false) = true ∧
    (match step { start with cfg := { start.cfg with memMap := [⟨0, .ram⟩] } } with
      | .fault _ => true
      | _ => false) = true := by decide

/-- A store of DEFRAG to COMMAND by STA; by STD in its high byte and in its low byte; by INC of the byte before it. -/
theorem witness_DefragRefused :
    ({ start with a := 0x12 } : State).issuesDefrag (MemForm.ea (.ext 0xF00E) { start with a := 0x12 }).1
      ((MemForm.ea (.ext 0xF00E) { start with a := 0x12 }).2.acc .a) = true ∧
    ({ start with a := 0x12 } : State).issuesDefrag 0xF00E (hiByte ({ start with a := 0x12 } : State).d) = true ∧
    ({ start with b := 0x12 } : State).issuesDefrag (0xF00D + 1) (loByte ({ start with b := 0x12 } : State).d) = true ∧
    start.issuesDefrag 0xF00E
      (UnaryOp.rule .inc start.cc false (busRead { start with mmu := { five with command := 0x11 } } 0xF00E).1).1 = true := by
  decide

/-- CLR issues DEFRAG where a configuration gives it the code 0. -/
theorem witness_DefragRefused_clear :
    ({ start with cfg := { start.cfg with commands := start.cfg.commands.map fun c =>
      if c.1 = 0x00 then (0x00, .defrag) else if c.1 = 0x12 then (0x12, .nop) else c } } : State).issuesDefrag 0xF00E 0x00
      = true := by decide

/-- Pushes reach COMMAND with the DEFRAG code in A and in the low byte of PC. -/
def pushing : State := { vectored with a := 0x12, pc := 0x1012, sp := 0xF00F, irqN := false }

theorem witness_DefragRefused_pushes :
    pushing.pushesClear (pushing.stackPtr .s) (pushing.frame .s (selected 0x02 pushOrder)) = false ∧
      pushing.pushesClear pushing.sp [loByte pushing.pc, hiByte pushing.pc] = false ∧
      pushing.pushesClear (MemForm.ea (.ext 0x2000) pushing).2.sp [loByte pushing.pc, hiByte pushing.pc] = false ∧
      pushing.pushesClear pushing.sp ((pushing.setE true).frame .s pushOrder) = false ∧
      pushing.pushesClear pushing.sp (((pushing.andCC 0xEF).setE true).frame .s pushOrder) = false := by decide

theorem witness_DefragRefused_interrupt :
    pushing.Evaluates ∧ pushing.accepts .irq = true ∧ pushing.wait ≠ .cwai ∧
      pushing.pushesClear pushing.sp (pushing.interruptFrame .irq) = false :=
  ⟨⟨by decide, by decide, by decide, by decide⟩, by decide, by decide, by decide⟩

theorem witness_AccumulatorOperations : AccOp.subtracts .add = false ∧ start.defragIssued = false := by decide

theorem witness_AccumulatorSubtracts : AccOp.subtracts .cmp = true ∧ start.defragIssued = false := by decide

/-- The premise of the statements on arithmetic, loads, LEA and branches. -/
theorem witness_not_in_defrag : start.defragIssued = false := by decide

theorem witness_UnaryMemory :
    start.defragIssued = false ∧
      start.issuesDefrag (MemForm.ea (.ext 0xF00E) start).1
        (UnaryOp.rule .com (busRead start 0xF00E).2.cc (Config.freeFlag (busRead start 0xF00E).2.draws)
          (busRead start 0xF00E).1).1 = false ∧
      start.issuesDefrag (MemForm.ea (.dir 0x34) start).1 0x12 = false := by decide

theorem witness_TestAndClear :
    start.defragIssued = false ∧ start.issuesDefrag (MemForm.ea (.ext 0xF00E) start).1 0x00 = false ∧
      start.issuesDefrag (MemForm.ea (.ext 0x2000) start).1 0x00 = false := by decide

/-- STA and STD in RAM, and at COMMAND with a code that is not DEFRAG's. -/
theorem witness_Stores :
    start.defragIssued = false ∧ start.issuesDefrag (MemForm.ea (.ext 0x2000) start).1 (start.acc .a) = false ∧
      start.issuesDefrag (MemForm.ea (.ext 0xF00E) start).1 (start.acc .a) = false ∧
      start.issuesDefrag (MemForm.ea (.ext 0xF00D) start).1 (hiByte (start.reg16 .d)) = false ∧
      start.issuesDefrag ((MemForm.ea (.ext 0xF00D) start).1 + 1) (loByte (start.reg16 .d)) = false := by decide

theorem witness_DecimalAdjust : (9 : Nat) < 10 ∧ (0 : Nat) < 10 := by decide

theorem witness_OperandAddresses : start.peek 0xFFFF = some 0x00 ∧ start.peek (0xFFFF + 1) = some 0x00 := by decide

theorem witness_TransferExchange :
    pairRegs 8 11 = some (.a, .dp) ∧ pairRegs 0 5 = some (.d, .pc) ∧ pairRegs 4 4 = some (.s, .s) ∧
      Reg.shares .a .d = true ∧ Reg.shares .a .b = false := by decide

theorem witness_JumpReturnNop : start.defragIssued = false ∧ start.bytesAt start.sp [0x00, 0x00] = true := by decide

theorem witness_Calls : start.pushesClear start.sp [loByte start.pc, hiByte start.pc] = true ∧
    start.defragIssued = false := by decide

theorem witness_PushRegisters :
    start.defragIssued = false ∧ start.pushesClear start.sp (start.frame .s (selected 0xFF pushOrder)) = true ∧
      start.ramBelow start.sp (start.frame .s (selected 0xFF pushOrder)).length = true ∧
      start.pushesClear start.u (start.frame .u (selected 0x00 pushOrder)) = true := by decide

theorem witness_PullRegisters :
    start.defragIssued = false ∧ frameBytes (selected 0xFF pullOrder) = 12 ∧ frameBytes (selected 0x00 pullOrder) = 0 ∧
      start.bytesAt start.sp (List.replicate 12 0x00) = true ∧ start.bytesAt start.u [] = true := by decide

theorem witness_PushPullRestores :
    start.defragIssued = false ∧ start.ramBelow (start.stackPtr .s) (frameBytes (selected 0xFF pushOrder)) = true ∧
      start.ramBelow (start.stackPtr .u) (frameBytes (selected 0xFF pushOrder)) = true := by decide

theorem witness_SoftwareInterrupts :
    vectored.defragIssued = false ∧ (Sys2Proof.Vector.swi3 ∈ [Sys2Proof.Vector.swi, .swi2, .swi3]) ∧
      vectored.pushesClear vectored.sp ((vectored.setE true).frame .s pushOrder) = true ∧
      vectored.ramBelow vectored.sp 12 = true ∧
      (pushEntire vectored).bytesAt Sys2Proof.Vector.swi3.addr [0x00, 0x00] = true := by decide

theorem witness_ReturnFromInterrupt :
    start.defragIssued = false ∧ (start.hostLoad 0x8000 [0x05, 0x12, 0x34]).bytesAt start.sp [0x05, 0x12, 0x34] = true ∧
      (0x05 : Byte).getLsbD 7 = false ∧ (0x80 : Byte).getLsbD 7 = true ∧
      (start.hostLoad 0x8000 [0x80, 1, 2, 3, 4, 5, 6, 7, 8, 9, 10, 11]).bytesAt start.sp
        [0x80, 1, 2, 3, 4, 5, 6, 7, 8, 9, 10, 11] = true := by decide

theorem witness_WaitInstructions :
    start.pushesClear start.sp (((start.andCC 0xEF).setE true).frame .s pushOrder) = true ∧
      start.ramBelow start.sp 12 = true ∧ start.defragIssued = false := by decide

theorem witness_WaitingSteps_idle :
    ({ ready with wait := .cwai } : State).Evaluates ∧ ({ ready with wait := .cwai } : State).anyLine = false :=
  ⟨⟨by decide, by decide, by decide, by decide⟩, by decide⟩

theorem witness_WaitingSteps_resume :
    ({ ready with wait := .sync, irqN := false, cc := CC.ofByte 0x10 } : State).Evaluates ∧
      ({ ready with wait := .sync, irqN := false, cc := CC.ofByte 0x10 } : State).anyLine = true ∧
      ({ ready with wait := .sync, irqN := false, cc := CC.ofByte 0x10 } : State).NoInterrupt ∧
      ({ ready with wait := .sync, irqN := false, cc := CC.ofByte 0x10 } : State).bytesAt 0x1000 [0x12] = true :=
  ⟨⟨by decide, by decide, by decide, by decide⟩, by decide, by unfold State.NoInterrupt; decide, by decide⟩

/-- All three lines low: NMI counts; without an edge FIRQ; with F set IRQ. -/
theorem witness_InterruptEntry :
    ({ vectored with nmiN := false, firqN := false, irqN := false } : State).accepts .nmi = true ∧
      ({ vectored with nmiHist := false, nmiN := false, firqN := false, irqN := false } : State).accepts .firq = true ∧
      ({ vectored with firqN := false, irqN := false, cc := CC.ofByte 0x40 } : State).accepts .irq = true ∧
      vectored.pushesClear vectored.sp (vectored.interruptFrame .irq) = true ∧
      vectored.ramBelow vectored.sp (vectored.interruptFrame .irq).length = true ∧
      vectored.ramBelow vectored.sp (vectored.interruptFrame .firq).length = true ∧
      (pushFrame .irq vectored).bytesAt Interrupt.irq.vector.addr [0x20, 0x00] = true ∧
      vectored.cfg.cwaiEntryRestacks = false := by decide

theorem witness_InterruptEntry_evaluates :
    ({ vectored with irqN := false } : State).Evaluates ∧
      ({ vectored with irqN := false } : State).accepts .irq = true ∧
      ({ vectored with irqN := false } : State).pushesClear vectored.sp
        (({ vectored with irqN := false } : State).interruptFrame .irq) = true ∧
      ({ vectored with irqN := false, wait := .cwai } : State).Evaluates ∧
      ({ vectored with irqN := false, wait := .cwai } : State).accepts .irq = true :=
  ⟨⟨by decide, by decide, by decide, by decide⟩, by decide, by decide,
    ⟨by decide, by decide, by decide, by decide⟩, by decide⟩

theorem witness_InterruptRoundTrip :
    ({ vectored with irqN := false } : State).Evaluates ∧ ({ vectored with irqN := false } : State).wait ≠ .cwai ∧
      ({ vectored with irqN := false } : State).accepts .irq = true ∧
      ({ vectored with irqN := false } : State).ramBelow vectored.sp
        (({ vectored with irqN := false } : State).interruptFrame .irq).length = true :=
  ⟨⟨by decide, by decide, by decide, by decide⟩, by decide, by decide, by decide⟩

/-- Where a CWAI wait pushes again, and where the frame of CWAI serves the IRQ that ends it. -/
theorem witness_InterruptRoundTrip_cwai :
    (({ vectored with irqN := false, wait := .cwai, cfg := { vectored.cfg with cwaiEntryRestacks := true } } : State).accepts
      .irq = true) ∧
    vectored.Evaluates ∧ vectored.cfg.cwaiEntryRestacks = false ∧ vectored.ramBelow vectored.sp 12 = true ∧
    (match exec (.cwai 0xEF) vectored with
      | .next t => ({ t with busy := 0 }.withLines true true false).accepts .irq
      | _ => false) = true :=
  ⟨by decide, ⟨by decide, by decide, by decide, by decide⟩, by decide, by decide, by decide⟩

/-- Each kind of address, at the edges of its region. -/
theorem witness_WriteReadsBack :
    start.inRam 0x0000 = true ∧ start.inRam 0xAFFF = true ∧
      start.locate 0xB000 = some (.bankWin .one, 0) ∧ start.locate 0xEFFF = some (.bankWin .two, 8191) ∧
      bankLocate Mmu.construct .one 0 = .ramBacked ∧
      bankLocate { five with bankSel1 := 0 } .one 159 = .node 4 ∧ five.payloadWritable 4 = true ∧
      five.payloadWritable 5 = false ∧ start.locate 0xF037 = some (.mmuReg, 55) ∧
      mmuRegAt start.cfg 55 = some (.rawIndex, 1) ∧ mmuRegAt start.cfg 0x2F = some (.metaData, 31) ∧
      mmuRegAt start.cfg 0x0F = some (.error, 0) ∧ start.locate 0xF038 = some (.rom, 0) ∧
      ({ start with cfg := { start.cfg with memMap := [⟨0x8000, .ram⟩] } } : State).locate 0x8000 = none := by decide

/-- Both ends of a window, and the first offset past a chain of five nodes. -/
theorem witness_BankTranslation : (8191 : Nat) < windowBytes ∧ five.validHandle 0 = true ∧
    start.locate 0xB0A0 = some (.bankWin .one, 160) ∧ bankLocate { five with bankSel1 := 0 } .one 160 = .bankError ∧
    bankLocate { five with bankSel2 := 1 } .two 0 = .bankError := by decide

theorem witness_CommandDispatch :
    start.locate 0xF00E = some (.mmuReg, 14) ∧ mmuRegAt start.cfg 14 = some (.command, 0) ∧
      start.cfg.wf = true ∧ commandOf start.cfg 0x15 = none ∧ commandOf start.cfg 0x00 = some .nop ∧
      commandOf start.cfg 0x14 = some .size ∧ (Mmu.construct.run defaultErrors .size).2 = some 0x08 ∧
      (five.run defaultErrors .size).2 = none := by decide

theorem witness_MmuReset : start.cfg.wf = true ∧ commandOf start.cfg 0x13 = some .reset := by decide

/-- After ALLOC of 2 nodes. -/
def two : Mmu := command { Mmu.construct with arg1 := 2 } 0x03

theorem two_node (i : Word) (h0 : i ≠ 0) (h1 : i ≠ 1) : two.node i = Node.free := by
  have hp : two.pool = [(0, ⟨1, [], 0, noNode, 1⟩), (1, ⟨1, [], 0, 0, noNode⟩)] := by decide
  have n0 : i.toNat ≠ 0 := fun h => h0 (BitVec.eq_of_toNat_eq h)
  have n1 : i.toNat ≠ 1 := fun h => h1 (BitVec.eq_of_toNat_eq h)
  simp [Mmu.node, hp, sparseGet, Ne.symm n0, Ne.symm n1]

theorem two_allocated (i : Word) (h : (two.node i).allocated = true) : i = 0 ∨ i = 1 := by
  by_cases h0 : i = 0
  · exact .inl h0
  · by_cases h1 : i = 1
    · exact .inr h1
    · rw [two_node i h0 h1] at h
      exact absurd h (by decide)

/-- A chain of two nodes. -/
theorem witness_CommandsKeepChains : two.ChainsOk := by
  refine ⟨fun i h => ?_, fun i h => ?_⟩
  · by_cases h0 : i = 0
    · subst h0; exact absurd h (by decide)
    · by_cases h1 : i = 1
      · subst h1; exact absurd h (by decide)
      · exact two_node i h0 h1
  · obtain rfl | rfl := two_allocated i h
    · exact ⟨by decide, by decide, by decide, by decide, by decide, by decide, by decide⟩
    · exact ⟨by decide, by decide, by decide, by decide, by decide, by decide, by decide⟩

theorem witness_CommandsKeepCounts : Pool.wf two.pool = true ∧ two.CountsOk :=
  ⟨by decide, ⟨by decide, by decide, by decide, fun i h => by
    obtain rfl | rfl := two_allocated i h <;> decide⟩⟩

theorem witness_FailedCommands :
    ({ five with arg1 := 0 }.run defaultErrors .alloc).2 = some 0x07 ∧ ({ five with arg1 := 257 }.run defaultErrors .alloc).2 = some 0x07 ∧
      ({ five with rawIndex := 5 }.run defaultErrors .popBack).2 = some 0x09 := by decide

theorem witness_CommandFrame :
    MmuCommand.delNode ≠ .reset ∧ (five.node 1).allocated = true ∧ ((five.run defaultErrors .delNode).1.node 1).allocated = true := by
  decide

theorem witness_CursorCommands : five.cursor = some 0 ∧ ({ five with rawIndex := 52428 } : Mmu).cursor = none ∧
    ({ five with rawIndex := 5 } : Mmu).cursor = none := by decide

theorem witness_AllocBuildsChain :
    Pool.wf five.pool = true ∧ five.arg1.toNat = 0 ∧ ({ five with arg1 := 1 } : Mmu).arg1.toNat = 1 ∧
      ({ five with arg1 := 256 } : Mmu).arg1.toNat = 256 ∧ five.allocatedCount + 256 ≤ nodes := by decide

theorem witness_FreeReleasesChain :
    five.validHandle 0 = true ∧ five.mapped 0 = false ∧ ({ five with bankSel2 := 0 } : Mmu).mapped 0 = true ∧
      five.validHandle 1 = false ∧ (five.node 0).status.getLsbD 1 = false ∧ Pool.wf five.pool = true ∧
      ((command { Mmu.construct with arg1 := 1, arg2 := 2 } 0x03).node 0).status.getLsbD 1 = true := by decide

theorem witness_LockNode : five.cursor = some 0 ∧ (five.node 4).root = 0 := by decide

end Sys2Proof.Tests
end

/-! PROOFS. Reading the fields of a node after the MMU's helper functions. -/

namespace Sys2Proof.Machine

/-! ### Status bits -/

theorem templateStatus_allocated (t : Byte) : (templateStatus t).getLsbD 0 = true := by
  revert t
  decide

theorem templateStatus_fragd (t : Byte) : (templateStatus t).getLsbD 3 = false := by
  revert t
  decide

theorem withFragd_allocated (st : Byte) (f : Bool) : (withFragd st f).getLsbD 0 = st.getLsbD 0 := by
  revert st
  cases f <;> decide

theorem withFragd_fragd (st : Byte) (f : Bool) : (withFragd st f).getLsbD 3 = f := by
  revert st
  cases f <;> decide

/-! ### Nodes after a write of one field -/

/-- The sentinel is no index of the pool (00_scope.md R8). -/
theorem noNode_not_inPool : ¬ noNode.toNat < nodes := by decide

theorem Mmu.node_of_pool_eq {m m' : Mmu} (h : m'.pool = m.pool) : m'.node = m.node := by
  funext i
  rw [Mmu.node, Mmu.node, h]

theorem Mmu.node_setStatus (m : Mmu) (i j : Word) (v : Byte) : (m.setStatus i v).node j =
    { m.node j with status := if j = i ∧ i.toNat < nodes then v else (m.node j).status } := by
  rw [Mmu.setStatus, Mmu.node_setNode]
  split
  · next h => rw [h.1]
  · rfl

theorem Mmu.node_setRoot (m : Mmu) (i v j : Word) : (m.setRoot i v).node j =
    { m.node j with root := if j = i ∧ i.toNat < nodes then v else (m.node j).root } := by
  rw [Mmu.setRoot, Mmu.node_setNode]
  split
  · next h => rw [h.1]
  · rfl

theorem Mmu.node_setPrev (m : Mmu) (i v j : Word) : (m.setPrev i v).node j =
    { m.node j with prev := if j = i ∧ i.toNat < nodes then v else (m.node j).prev } := by
  rw [Mmu.setPrev, Mmu.node_setNode]
  split
  · next h => rw [h.1]
  · rfl

theorem Mmu.node_setNext (m : Mmu) (i v j : Word) : (m.setNext i v).node j =
    { m.node j with next := if j = i ∧ i.toNat < nodes then v else (m.node j).next } := by
  rw [Mmu.setNext, Mmu.node_setNode]
  split
  · next h => rw [h.1]
  · rfl

/-! ### Nodes after the helper functions (49_mmu_commands.md R463 to R468) -/

theorem Mmu.node_addFragged (m : Mmu) (v i : Word) : (m.addFragged v).node i = m.node i := rfl

theorem Mmu.node_take (m : Mmu) (f j : Word) (t : Byte) : (m.take f t).node j =
    { m.node j with status := if j = f ∧ f.toNat < nodes then templateStatus t else (m.node j).status } :=
  m.node_setStatus f j _

theorem Mmu.node_release (m : Mmu) (n j : Word) :
    (m.release n).node j = if j = n ∧ n.toNat < nodes then Node.free else m.node j :=
  m.node_setNode n j _

/-- REFRAG writes the FRAGD bit of one node (R465). -/
theorem Mmu.node_refrag (m : Mmu) (i j : Word) : (m.refrag i).node j =
    { m.node j with
      status := if j = i ∧ i.toNat < nodes then withFragd (m.node j).status (linkDiscontinuous (m.node j) j)
        else (m.node j).status } := by
  unfold Mmu.refrag
  split
  · next h => simp [h, noNode_not_inPool]
  · rw [Mmu.node_setStatus]
    split
    · next h => rw [h.1]
    · rfl

theorem Mmu.node_setRoots (m : Mmu) (xs : List Word) (r j : Word) : (m.setRoots xs r).node j =
    { m.node j with root := if j ∈ xs ∧ j.toNat < nodes then r else (m.node j).root } := by
  unfold Mmu.setRoots
  induction xs generalizing m with
  | nil => simp
  | cons x xs ih =>
    rw [List.foldl_cons, ih, Mmu.node_setRoot]
    by_cases hx : j = x
    · subst hx
      by_cases hj : j.toNat < nodes <;> simp [hj]
    · simp [hx]

theorem Mmu.node_releaseAll (m : Mmu) (xs : List Word) (j : Word) :
    (xs.foldl Mmu.release m).node j = if j ∈ xs ∧ j.toNat < nodes then Node.free else m.node j := by
  induction xs generalizing m with
  | nil => simp
  | cons x xs ih =>
    rw [List.foldl_cons, ih, Mmu.node_release]
    by_cases hx : j = x
    · subst hx
      by_cases hj : j.toNat < nodes <;> simp [hj]
    · simp [hx]

/-- FREE gives back exactly the nodes of the chain (R468). -/
theorem Mmu.node_freeChain (m : Mmu) (h j : Word) :
    (m.freeChain h).node j = if j ∈ m.chainOf h ∧ j.toNat < nodes then Node.free else m.node j :=
  Mmu.node_releaseAll _ _ _

/-- Joining a new node to the one before it: that one's link, and the two FRAGD bits (R467). -/
theorem Mmu.node_linkAfter (m : Mmu) (last f j : Word) : (m.linkAfter last f).node j =
    { m.node j with
      next := if j = last ∧ last.toNat < nodes then f else (m.node j).next
      status := if (j = last ∨ j = f) ∧ j.toNat < nodes ∧ last ≠ noNode ∧ discontinuous last f = true then
          withFragd (m.node j).status true
        else (m.node j).status } := by
  unfold Mmu.linkAfter
  by_cases hl : last = noNode
  · simp [hl, noNode_not_inPool]
  · by_cases hd : discontinuous last f = true
    · simp only [hl, hd, if_true, if_false, Mmu.node_addFragged, Mmu.node_setStatus, Mmu.node_setNext]
      by_cases h1 : j = last <;> by_cases h2 : j = f <;> by_cases h3 : j.toNat < nodes <;>
        simp_all [withFragd, BitVec.or_assoc]
    · simp [hl, hd, Mmu.node_setNext]

end Sys2Proof.Machine

/-! PROOFS. Chains as complete lists, and the chain invariants of 10_state.md R49 as conditions on links and a rank. -/

namespace Sys2Proof.Machine

/-! ### Complete chains -/

/-- The nodes from `i` on, up to the one without a successor. -/
inductive Mmu.Chain (m : Mmu) : Word → List Word → Prop
  | nil : m.Chain noNode []
  | cons {i : Word} {l : List Word} : i ≠ noNode → m.Chain (m.node i).next l → m.Chain i (i :: l)

theorem chainFrom_noNode (m : Mmu) (k : Nat) : chainFrom m k noNode = [] := by
  cases k <;> simp [chainFrom]

/-- A bounded walk that ends before its bound has met the end of the chain. -/
theorem chain_of_chainFrom_short {m : Mmu} {k : Nat} {i : Word} (h : (chainFrom m k i).length < k) :
    m.Chain i (chainFrom m k i) := by
  induction k generalizing i with
  | zero => simp at h
  | succ k ih =>
    by_cases hi : i = noNode
    · subst hi
      rw [chainFrom_noNode]
      exact .nil
    · simp only [chainFrom, if_neg hi, List.length_cons, Nat.add_lt_add_iff_right] at h ⊢
      exact .cons hi (ih h)

/-- A bound that is long enough does not cut the walk. -/
theorem Mmu.Chain.chainFrom_eq {m : Mmu} {i : Word} {l : List Word} (h : m.Chain i l) {k : Nat} (hk : l.length ≤ k) :
    chainFrom m k i = l := by
  induction h generalizing k with
  | nil => exact chainFrom_noNode m k
  | cons hi _ ih =>
    cases k with
    | zero => simp at hk
    | succ k => simp only [chainFrom, if_neg hi, ih (Nat.le_of_succ_le_succ hk)]

theorem Mmu.Chain.head_mem {m : Mmu} {i : Word} {l : List Word} (h : m.Chain i l) (hi : i ≠ noNode) : i ∈ l := by
  cases h with
  | nil => exact absurd rfl hi
  | cons => simp

/-- A complete chain is closed under links. -/
theorem Mmu.Chain.next_mem {m : Mmu} {i j : Word} {l : List Word} (h : m.Chain i l) (hj : j ∈ l)
    (hn : (m.node j).next ≠ noNode) : (m.node j).next ∈ l := by
  induction h with
  | nil => simp at hj
  | cons hi hl ih =>
    rcases List.mem_cons.mp hj with rfl | hj
    · exact List.mem_cons_of_mem _ (hl.head_mem hn)
    · exact List.mem_cons_of_mem _ (ih hj)

/-! ### Walks that climb a rank -/

/-- A set of pool nodes that links do not leave, and along which a rank rises. -/
def Mmu.Climbs (m : Mmu) (S : Word → Prop) (rank : Word → Nat) : Prop :=
  ∀ i, S i → i.toNat < nodes ∧ ((m.node i).next ≠ noNode → S (m.node i).next ∧ rank i < rank (m.node i).next)

theorem Mmu.Climbs.chainFrom {m : Mmu} {S : Word → Prop} {rank : Word → Nat} (hS : m.Climbs S rank) (k : Nat) {i : Word}
    (hi : i ≠ noNode → S i) :
    (∀ j ∈ chainFrom m k i, S j ∧ rank i ≤ rank j) ∧ (chainFrom m k i).Pairwise fun a b => rank a < rank b := by
  induction k generalizing i with
  | zero => simp [Machine.chainFrom]
  | succ k ih =>
    by_cases he : i = noNode
    · simp [he, chainFrom_noNode]
    obtain ⟨hmem, hpair⟩ := ih (i := (m.node i).next) fun hn => ((hS i (hi he)).2 hn).1
    have above : ∀ j ∈ Machine.chainFrom m k (m.node i).next, rank i < rank j := by
      intro j hj
      have hn : (m.node i).next ≠ noNode := by
        intro hn
        rw [hn, chainFrom_noNode] at hj
        simp at hj
      exact ((hS i (hi he)).2 hn).2.trans_le (hmem j hj).2
    simp only [Machine.chainFrom, if_neg he]
    refine ⟨fun j hj => ?_, List.pairwise_cons.mpr ⟨above, hpair⟩⟩
    rcases List.mem_cons.mp hj with rfl | hj
    · exact ⟨hi he, le_rfl⟩
    · exact ⟨(hmem j hj).1, (above j hj).le⟩

/-- The pool holds at most `NODES` different nodes. -/
theorem length_le_nodes {l : List Word} (hd : l.Nodup) (hp : ∀ i ∈ l, i.toNat < nodes) : l.length ≤ nodes := by
  have hmap : (l.map BitVec.toNat).Nodup := hd.map fun _ _ => BitVec.eq_of_toNat_eq
  have hsub : (l.map BitVec.toNat) ⊆ List.range nodes := by
    intro x hx
    obtain ⟨i, hi, rfl⟩ := List.mem_map.mp hx
    exact List.mem_range.mpr (hp i hi)
  simpa using (hmap.subperm hsub).length_le

/-- On such a set `ChainOf` walks to the end of the chain: its bound cuts nothing (49_mmu_commands.md R466, log 15). -/
theorem Mmu.Climbs.chainOf {m : Mmu} {S : Word → Prop} {rank : Word → Nat} (hS : m.Climbs S rank) {i : Word} (hi : S i) :
    m.Chain i (m.chainOf i) ∧ (m.chainOf i).Nodup ∧ ∀ j ∈ m.chainOf i, S j := by
  have walk (k : Nat) : (Machine.chainFrom m k i).Nodup ∧ (∀ j ∈ Machine.chainFrom m k i, S j) ∧
      (Machine.chainFrom m k i).length ≤ nodes := by
    obtain ⟨hmem, hpair⟩ := hS.chainFrom k (fun _ => hi)
    have hd : (Machine.chainFrom m k i).Nodup := hpair.imp fun h e => absurd (e ▸ h) (lt_irrefl _)
    exact ⟨hd, fun j hj => (hmem j hj).1, length_le_nodes hd fun j hj => (hS j (hmem j hj).1).1⟩
  have hlong : m.Chain i (Machine.chainFrom m (nodes + 1) i) :=
    chain_of_chainFrom_short (Nat.lt_succ_of_le (walk (nodes + 1)).2.2)
  have heq : m.chainOf i = Machine.chainFrom m (nodes + 1) i := hlong.chainFrom_eq (walk (nodes + 1)).2.2
  rw [heq]
  exact ⟨hlong, (walk _).1, (walk _).2.1⟩

/-! ### The chain invariants by links and rank -/

/-- The conditions of 10_state.md R49 (a) to (e) that speak of a node and its neighbours, and in place of "lies on the chain
of its root" a rank that rises along every link. -/
structure Mmu.Linked (m : Mmu) (rank : Word → Nat) : Prop where
  free : ∀ i, (m.node i).allocated = false → m.node i = Node.free
  inPool : ∀ i, (m.node i).allocated = true → i.toNat < nodes
  root : ∀ i, (m.node i).allocated = true →
    (m.node (m.node i).root).allocated = true ∧ (m.node (m.node i).root).root = (m.node i).root
  head : ∀ i, (m.node i).allocated = true → ((m.node i).prev = noNode ↔ (m.node i).root = i)
  next : ∀ i, (m.node i).allocated = true → (m.node i).next ≠ noNode →
    (m.node (m.node i).next).allocated = true ∧ (m.node (m.node i).next).prev = i ∧
      (m.node (m.node i).next).root = (m.node i).root
  prev : ∀ i, (m.node i).allocated = true → (m.node i).prev ≠ noNode →
    (m.node (m.node i).prev).allocated = true ∧ (m.node (m.node i).prev).next = i
  climb : ∀ i, (m.node i).allocated = true → (m.node i).next ≠ noNode → rank i < rank (m.node i).next

section
variable {m : Mmu} {rank : Word → Nat}

theorem Mmu.Linked.ne_noNode (h : m.Linked rank) {i : Word} (hi : (m.node i).allocated = true) : i ≠ noNode := by
  rintro rfl
  exact noNode_not_inPool (h.inPool _ hi)

theorem Mmu.Linked.prev_root (h : m.Linked rank) {i : Word} (hi : (m.node i).allocated = true)
    (hp : (m.node i).prev ≠ noNode) : (m.node (m.node i).prev).root = (m.node i).root := by
  obtain ⟨ha, hn⟩ := h.prev i hi hp
  have := (h.next _ ha (by rw [hn]; exact h.ne_noNode hi)).2.2
  rw [hn] at this
  exact this.symm

theorem Mmu.Linked.prev_climb (h : m.Linked rank) {i : Word} (hi : (m.node i).allocated = true)
    (hp : (m.node i).prev ≠ noNode) : rank (m.node i).prev < rank i := by
  obtain ⟨ha, hn⟩ := h.prev i hi hp
  have := h.climb _ ha (by rw [hn]; exact h.ne_noNode hi)
  rwa [hn] at this

/-- The nodes of one root are such a set. -/
theorem Mmu.Linked.climbs (h : m.Linked rank) (r : Word) :
    m.Climbs (fun i => (m.node i).allocated = true ∧ (m.node i).root = r) rank := by
  rintro i ⟨ha, rfl⟩
  refine ⟨h.inPool i ha, fun hn => ⟨?_, h.climb i ha hn⟩⟩
  obtain ⟨ha', -, hr⟩ := h.next i ha hn
  exact ⟨ha', hr⟩

/-- Whatever holds a head and is closed under links holds every node of that root. -/
theorem Mmu.Linked.mem_of_closed (h : m.Linked rank) {l : List Word} {r : Word} (hr : r ∈ l)
    (hl : ∀ j ∈ l, (m.node j).allocated = true → (m.node j).next ≠ noNode → (m.node j).next ∈ l) {i : Word}
    (hi : (m.node i).allocated = true) (hroot : (m.node i).root = r) : i ∈ l := by
  induction hk : rank i using Nat.strong_induction_on generalizing i with
  | _ k ih =>
    by_cases hp : (m.node i).prev = noNode
    · rw [(h.head i hi).mp hp] at hroot
      rwa [hroot]
    · obtain ⟨ha, hn⟩ := h.prev i hi hp
      have hmem := ih _ (hk ▸ h.prev_climb hi hp) ha ((h.prev_root hi hp).trans hroot) rfl
      have := hl _ hmem ha (by rw [hn]; exact h.ne_noNode hi)
      rwa [hn] at this

/-- The chain of a head is complete, and holds exactly the allocated nodes with that root. -/
theorem Mmu.Linked.chainOf (h : m.Linked rank) {r : Word} (ha : (m.node r).allocated = true) (hr : (m.node r).root = r) :
    m.Chain r (m.chainOf r) ∧ (m.chainOf r).Nodup ∧
      ∀ j, j ∈ m.chainOf r ↔ (m.node j).allocated = true ∧ (m.node j).root = r := by
  obtain ⟨hc, hd, hmem⟩ := (h.climbs r).chainOf ⟨ha, hr⟩
  refine ⟨hc, hd, fun j => ⟨hmem j, fun ⟨hj, hjr⟩ => ?_⟩⟩
  exact h.mem_of_closed (hc.head_mem (h.ne_noNode ha)) (fun _ hj _ hn => hc.next_mem hj hn) hj hjr

/-- A head without successor is alone in its chain. -/
theorem Mmu.Linked.eq_of_root_alone (h : m.Linked rank) {c i : Word} (hn : (m.node c).next = noNode)
    (hi : (m.node i).allocated = true) (hr : (m.node i).root = c) : i = c := by
  have hmem : i ∈ [c] := h.mem_of_closed (List.mem_singleton.mpr rfl)
    (fun j hj _ hne => absurd (by rw [List.mem_singleton.mp hj, hn]) hne) hi hr
  exact List.mem_singleton.mp hmem

end

/-- The place in the chain of its root, as a rank. -/
def Mmu.place (m : Mmu) (i : Word) : Nat := (m.chainOf (m.node i).root).idxOf i

/-- In a bounded walk over nodes whose neighbours name each other, a node comes after its predecessor. -/
theorem idxOf_prev_lt {m : Mmu} (hnext : ∀ i, (m.node i).allocated = true → (m.node i).next ≠ noNode →
      (m.node (m.node i).next).allocated = true ∧ (m.node (m.node i).next).prev = i)
    (k : Nat) {h j : Word} (hh : (m.node h).allocated = true) (hj : j ∈ chainFrom m k h) (hjh : j ≠ h) :
    (chainFrom m k h).idxOf (m.node j).prev < (chainFrom m k h).idxOf j := by
  induction k generalizing h with
  | zero => simp [chainFrom] at hj
  | succ k ih =>
    by_cases he : h = noNode
    · rw [he, chainFrom_noNode] at hj
      simp at hj
    simp only [chainFrom, if_neg he] at hj ⊢
    have hj' : j ∈ chainFrom m k (m.node h).next := (List.mem_cons.mp hj).resolve_left hjh
    have hn : (m.node h).next ≠ noNode := by
      intro hn
      rw [hn, chainFrom_noNode] at hj'
      simp at hj'
    obtain ⟨ha, hp⟩ := hnext h hh hn
    rw [List.idxOf_cons_ne _ hjh.symm]
    by_cases hph : (m.node j).prev = h
    · rw [hph, List.idxOf_cons_self]
      exact Nat.succ_pos _
    · have hjn : j ≠ (m.node h).next := fun e => hph (e ▸ hp)
      rw [List.idxOf_cons_ne _ (Ne.symm hph)]
      exact Nat.succ_lt_succ (ih ha hj' hjn)

theorem Mmu.ChainsOk.linked {m : Mmu} (h : m.ChainsOk) : m.Linked m.place := by
  obtain ⟨hfree, hon⟩ := h
  have hnext : ∀ i, (m.node i).allocated = true → (m.node i).next ≠ noNode →
      (m.node (m.node i).next).allocated = true ∧ (m.node (m.node i).next).prev = i :=
    fun i hi hn => ⟨((hon i hi).next hn).1, ((hon i hi).next hn).2.1⟩
  refine ⟨hfree, fun i hi => (hon i hi).inPool, fun i hi => ⟨(hon i hi).rootAllocated, (hon i hi).rootIsHead⟩,
    fun i hi => (hon i hi).headHasNoPrev, fun i hi => (hon i hi).next, fun i hi => (hon i hi).prev, fun i hi hn => ?_⟩
  obtain ⟨ha, hp, hr⟩ := (hon i hi).next hn
  have hne : (m.node i).next ≠ (m.node i).root := by
    intro e
    have hprev := (hon _ ha).headHasNoPrev.mpr (by rw [hr, e])
    rw [hp] at hprev
    exact noNode_not_inPool (hprev ▸ (hon i hi).inPool)
  have hmem := (hon _ ha).onChain
  rw [hr] at hmem
  have := idxOf_prev_lt hnext nodes (hon i hi).rootAllocated hmem hne
  rw [hp] at this
  simpa only [Mmu.place, Mmu.chainOf, hr] using this

theorem Mmu.Linked.chainsOk {m : Mmu} {rank : Word → Nat} (h : m.Linked rank) : m.ChainsOk := by
  refine ⟨h.free, fun i hi => ⟨h.inPool i hi, (h.root i hi).1, (h.root i hi).2, ?_, h.head i hi, h.next i hi, h.prev i hi⟩⟩
  obtain ⟨ha, hr⟩ := h.root i hi
  exact ((h.chainOf ha hr).2.2 i).mpr ⟨hi, rfl⟩

/-- The chain invariants say that the links are consistent and some rank rises along them. -/
theorem Mmu.chainsOk_iff {m : Mmu} : m.ChainsOk ↔ ∃ rank, m.Linked rank :=
  ⟨fun h => ⟨_, h.linked⟩, fun ⟨_, h⟩ => h.chainsOk⟩

end Sys2Proof.Machine

/-! PROOFS. What inserting a node into a chain, removing one and freeing a chain do to the links, and that each keeps the chain
invariants (10_state.md R49). -/

namespace Sys2Proof.Machine

/-! ### Insertion -/

/-- From `m` to `m'` the node `f` came in between `p` and `n`, either of which may be the sentinel; without a predecessor `f`
is the new head. -/
structure Mmu.Inserts (m m' : Mmu) (f p n : Word) : Prop where
  allocated_new : (m'.node f).allocated = true
  prev_new : (m'.node f).prev = p
  next_new : (m'.node f).next = n
  root_new : (m'.node f).root = if p = noNode then f else (m.node p).root
  free_old : ∀ i, i ≠ f → (m.node i).allocated = false → m'.node i = m.node i
  allocated_old : ∀ i, (m.node i).allocated = true → (m'.node i).allocated = true
  prev_old : ∀ i, (m.node i).allocated = true → (m'.node i).prev = if i = n then f else (m.node i).prev
  next_old : ∀ i, (m.node i).allocated = true → (m'.node i).next = if i = p then f else (m.node i).next
  root_old : ∀ i, (m.node i).allocated = true →
    (m'.node i).root = if p = noNode ∧ (m.node i).root = n then f else (m.node i).root

/-- `p` and `n` are neighbours in a chain, or `n` is a head, or `p` ends a chain, or neither is a node. -/
structure Mmu.Gap (m : Mmu) (p n : Word) : Prop where
  left : p ≠ noNode → (m.node p).allocated = true ∧ (m.node p).next = n
  right : n ≠ noNode → (m.node n).allocated = true ∧ (m.node n).prev = p

/-- A rank that makes room for `f` right above `p`. -/
def rankWith (rank : Word → Nat) (f p i : Word) : Nat :=
  if i = f then (if p = noNode then 0 else 2 * rank p + 2) else 2 * rank i + 1

section
variable {m m' : Mmu} {rank : Word → Nat} {f p n : Word}

theorem Mmu.Inserts.allocated_inv (hi : m.Inserts m' f p n) {i : Word} (h : (m'.node i).allocated = true) (hif : i ≠ f) :
    (m.node i).allocated = true := by
  cases ha : (m.node i).allocated with
  | true => rfl
  | false => rw [hi.free_old i hif ha, ha] at h; exact h

/-- The neighbours of a gap have one root; a node right of the sentinel is a head. -/
theorem Mmu.Linked.gap_root (h : m.Linked rank) (hg : m.Gap p n) (hn : n ≠ noNode) :
    (m.node n).root = if p = noNode then n else (m.node p).root := by
  obtain ⟨ha, hprev⟩ := hg.right hn
  split
  · next hp => exact (h.head n ha).mp (hprev.trans hp)
  · next hp => rw [← hprev, h.prev_root ha (hprev ▸ hp)]

/-- The root `f` gives to the chain it enters: an allocated root stays one. -/
theorem Mmu.Linked.insert_root (h : m.Linked rank) (hi : m.Inserts m' f p n) {i : Word}
    (ha : (m.node i).allocated = true) :
    (m'.node (m'.node i).root).allocated = true ∧ (m'.node (m'.node i).root).root = (m'.node i).root := by
  obtain ⟨hra, hrr⟩ := h.root i ha
  rw [hi.root_old i ha]
  split
  · next hc => exact ⟨hi.allocated_new, by rw [hi.root_new, if_pos hc.1]⟩
  · next hc => exact ⟨hi.allocated_old _ hra, by rw [hi.root_old _ hra, hrr, if_neg hc]⟩

/-- Inserting a free node of the pool keeps the links consistent. -/
theorem Mmu.Linked.insert (h : m.Linked rank) (hf : (m.node f).allocated = false) (hfp : f.toNat < nodes)
    (hg : m.Gap p n) (hi : m.Inserts m' f p n) : m'.Linked (rankWith rank f p) := by
  have hfn : f ≠ noNode := by rintro rfl; exact noNode_not_inPool hfp
  have hne : ∀ i, (m.node i).allocated = true → i ≠ f := by rintro i ha rfl; simp [hf] at ha
  constructor
  case free =>
    intro i ha
    have hif : i ≠ f := by rintro rfl; rw [hi.allocated_new] at ha; cases ha
    cases hm : (m.node i).allocated with
    | true => rw [hi.allocated_old i hm] at ha; cases ha
    | false => rw [hi.free_old i hif hm, h.free i hm]
  case inPool =>
    intro i ha
    by_cases hif : i = f
    · exact hif ▸ hfp
    · exact h.inPool i (hi.allocated_inv ha hif)
  case root =>
    intro i ha
    by_cases hif : i = f
    · subst hif
      rw [hi.root_new]
      split
      · next hp => exact ⟨hi.allocated_new, by rw [hi.root_new, if_pos hp]⟩
      · next hp =>
        have := h.insert_root hi (hg.left hp).1
        rwa [hi.root_old p (hg.left hp).1, if_neg fun hc => hp hc.1] at this
    · exact h.insert_root hi (hi.allocated_inv ha hif)
  case head =>
    intro i ha
    by_cases hif : i = f
    · subst hif
      rw [hi.prev_new, hi.root_new]
      split
      · next hp => simp [hp]
      · next hp => exact ⟨fun e => absurd e hp, fun e => absurd e (hne _ (h.root p (hg.left hp).1).1)⟩
    have ha := hi.allocated_inv ha hif
    rw [hi.prev_old i ha, hi.root_old i ha]
    by_cases hin : i = n
    · subst hin
      have hroot := h.gap_root hg (h.ne_noNode ha)
      rw [if_pos rfl]
      by_cases hp : p = noNode
      · rw [if_pos hp] at hroot
        simp [hp, hroot, hfn, Ne.symm hif]
      · have := (h.head i ha).not.mp (by rw [(hg.right (h.ne_noNode ha)).2]; exact hp)
        simp [hp, hfn, this]
    · rw [if_neg hin, h.head i ha]
      split
      · next hc => simp [hc.2, Ne.symm hin, Ne.symm hif]
      · rfl
  case next =>
    intro i ha hn
    by_cases hif : i = f
    · subst hif
      rw [hi.next_new] at hn ⊢
      have hna := (hg.right hn).1
      refine ⟨hi.allocated_old n hna, by rw [hi.prev_old n hna, if_pos rfl], ?_⟩
      rw [hi.root_old n hna, hi.root_new, h.gap_root hg hn]
      by_cases hp : p = noNode <;> simp [hp]
    have ha := hi.allocated_inv ha hif
    rw [hi.next_old i ha] at hn ⊢
    by_cases hip : i = p
    · subst hip
      have hp := h.ne_noNode ha
      simp [hi.allocated_new, hi.prev_new, hi.root_new, hi.root_old i ha, hp]
    · rw [if_neg hip] at hn ⊢
      obtain ⟨hja, hjp, hjr⟩ := h.next i ha hn
      have hjn : (m.node i).next ≠ n := by
        intro e
        rw [e] at hjp hn
        exact hip (hjp.symm.trans (hg.right hn).2)
      refine ⟨hi.allocated_old _ hja, by rw [hi.prev_old _ hja, if_neg hjn, hjp], ?_⟩
      rw [hi.root_old _ hja, hi.root_old i ha, hjr]
  case prev =>
    intro i ha hp
    by_cases hif : i = f
    · subst hif
      rw [hi.prev_new] at hp ⊢
      have hpa := (hg.left hp).1
      exact ⟨hi.allocated_old p hpa, by rw [hi.next_old p hpa, if_pos rfl]⟩
    have ha := hi.allocated_inv ha hif
    rw [hi.prev_old i ha] at hp ⊢
    by_cases hin : i = n
    · simp [hin, hi.allocated_new, hi.next_new]
    · rw [if_neg hin] at hp ⊢
      obtain ⟨hja, hjn⟩ := h.prev i ha hp
      have hjp : (m.node i).prev ≠ p := by
        intro e
        rw [e] at hjn hp
        exact hin (hjn.symm.trans (hg.left hp).2)
      exact ⟨hi.allocated_old _ hja, by rw [hi.next_old _ hja, if_neg hjp, hjn]⟩
  case climb =>
    intro i ha hn
    by_cases hif : i = f
    · subst hif
      rw [hi.next_new] at hn ⊢
      have hna := (hg.right hn).1
      rw [rankWith, rankWith, if_pos rfl, if_neg (hne n hna)]
      split
      · omega
      · next hp =>
        have := h.climb p (hg.left hp).1 (by rw [(hg.left hp).2]; exact hn)
        rw [(hg.left hp).2] at this
        omega
    have ha := hi.allocated_inv ha hif
    rw [hi.next_old i ha] at hn ⊢
    by_cases hip : i = p
    · subst hip
      simp [rankWith, hif, h.ne_noNode ha]
    · rw [if_neg hip] at hn ⊢
      have := h.climb i ha hn
      rw [rankWith, rankWith, if_neg hif, if_neg (hne _ (h.next i ha hn).1)]
      omega

end

end Sys2Proof.Machine

/-! PROOFS. Taking a node out of its chain, and giving back a whole chain, keep the links consistent. -/

namespace Sys2Proof.Machine

/-! ### Removal -/

/-- From `m` to `m'` the node `c` left its chain, in which it stood between `p` and `n`. -/
structure Mmu.Removes (m m' : Mmu) (c p n : Word) : Prop where
  released : m'.node c = Node.free
  free_old : ∀ i, (m.node i).allocated = false → m'.node i = m.node i
  allocated_old : ∀ i, i ≠ c → (m.node i).allocated = true → (m'.node i).allocated = true
  prev_old : ∀ i, i ≠ c → (m.node i).allocated = true → (m'.node i).prev = if i = n then p else (m.node i).prev
  next_old : ∀ i, i ≠ c → (m.node i).allocated = true → (m'.node i).next = if i = p then n else (m.node i).next
  root_old : ∀ i, i ≠ c → (m.node i).allocated = true →
    (m'.node i).root = if p = noNode ∧ (m.node i).root = c then n else (m.node i).root

section
variable {m m' : Mmu} {rank : Word → Nat} {c p n : Word}

theorem Mmu.Removes.allocated_inv (hr : m.Removes m' c p n) {i : Word} (h : (m'.node i).allocated = true) :
    i ≠ c ∧ (m.node i).allocated = true := by
  refine ⟨?_, ?_⟩
  · rintro rfl
    rw [hr.released] at h
    exact absurd h (by decide)
  · cases ha : (m.node i).allocated with
    | true => rfl
    | false => rw [hr.free_old i ha, ha] at h; exact h

/-- Taking a node out of its chain keeps the links consistent. -/
theorem Mmu.Linked.remove (h : m.Linked rank) (hc : (m.node c).allocated = true) (hp : (m.node c).prev = p)
    (hn : (m.node c).next = n) (hr : m.Removes m' c p n) : m'.Linked rank := by
  have hcn := h.ne_noNode hc
  have hleft : p ≠ noNode → (m.node p).allocated = true ∧ (m.node p).next = c := by
    rw [← hp]; exact h.prev c hc
  have hright : n ≠ noNode → (m.node n).allocated = true ∧ (m.node n).prev = c ∧ (m.node n).root = (m.node c).root := by
    rw [← hn]; exact h.next c hc
  have hroot : p = noNode → (m.node c).root = c := fun e => (h.head c hc).mp (hp.trans e)
  have hnext : p = noNode → ∀ i, i ≠ c → (m.node i).allocated = true → (m.node i).root = c → n ≠ noNode :=
    fun _ i hic ha hrc hnn => hic (h.eq_of_root_alone (hn.trans hnn) ha hrc)
  have hcc : ∀ i, (m.node i).allocated = true → p ≠ noNode → (m.node i).root ≠ c := by
    intro i ha hpn e
    have hrr := (h.root i ha).2
    rw [e] at hrr
    exact hpn (hp.symm.trans ((h.head c hc).mpr hrr))
  constructor
  case free =>
    intro i ha
    by_cases hic : i = c
    · rw [hic, hr.released]
    cases hm : (m.node i).allocated with
    | true => rw [hr.allocated_old i hic hm] at ha; cases ha
    | false => rw [hr.free_old i hm, h.free i hm]
  case inPool => exact fun i ha => h.inPool i (hr.allocated_inv ha).2
  case root =>
    intro i ha
    obtain ⟨hic, ha⟩ := hr.allocated_inv ha
    obtain ⟨hra, hrr⟩ := h.root i ha
    rw [hr.root_old i hic ha]
    split
    · next hpc =>
      have hnn := hnext hpc.1 i hic ha hpc.2
      obtain ⟨hna, hnp, hnr⟩ := hright hnn
      have hnc : n ≠ c := by rintro rfl; exact hcn (hnp.symm.trans (hp.trans hpc.1))
      refine ⟨hr.allocated_old n hnc hna, ?_⟩
      rw [hr.root_old n hnc hna, if_pos ⟨hpc.1, hnr.trans (hroot hpc.1)⟩]
    · next hpc =>
      have hrc : (m.node i).root ≠ c := fun e => by
        by_cases hpn : p = noNode
        · exact hpc ⟨hpn, e⟩
        · exact hcc i ha hpn e
      exact ⟨hr.allocated_old _ hrc hra, by rw [hr.root_old _ hrc hra, hrr, if_neg hpc]⟩
  case head =>
    intro i ha
    obtain ⟨hic, ha⟩ := hr.allocated_inv ha
    rw [hr.prev_old i hic ha, hr.root_old i hic ha]
    by_cases hin : i = n
    · subst hin
      obtain ⟨-, hip, hir⟩ := hright (h.ne_noNode ha)
      rw [if_pos rfl]
      by_cases hpn : p = noNode
      · simp [hpn, hir, hroot hpn]
      · have := (h.head i ha).not.mp (by rw [hip]; exact hcn)
        simp [hpn, this]
    · rw [if_neg hin, h.head i ha]
      split
      · next hpc => simp [hpc.2, Ne.symm hin, Ne.symm hic]
      · rfl
  case next =>
    intro i ha hne
    obtain ⟨hic, ha⟩ := hr.allocated_inv ha
    rw [hr.next_old i hic ha] at hne ⊢
    by_cases hip : i = p
    · subst hip
      have hi := h.ne_noNode ha
      obtain ⟨-, hinx⟩ := hleft hi
      rw [if_pos rfl] at hne ⊢
      obtain ⟨hna, hnp, hnr⟩ := hright hne
      have hnc : n ≠ c := by
        rintro rfl
        exact absurd (h.climb n hc (by rw [hn]; exact hcn)) (by rw [hn]; exact lt_irrefl _)
      refine ⟨hr.allocated_old n hnc hna, by rw [hr.prev_old n hnc hna, if_pos rfl], ?_⟩
      have hrc := (h.next i ha (by rw [hinx]; exact hcn)).2.2
      rw [hinx] at hrc
      simp [hr.root_old n hnc hna, hr.root_old i hic ha, hi, hnr, hrc]
    · rw [if_neg hip] at hne ⊢
      obtain ⟨hja, hjp, hjr⟩ := h.next i ha hne
      have hjc : (m.node i).next ≠ c := by
        intro e
        rw [e, hp] at hjp
        exact hip hjp.symm
      have hjn : (m.node i).next ≠ n := by
        intro e
        rw [e] at hjp hne
        exact hic (hjp.symm.trans (hright hne).2.1)
      refine ⟨hr.allocated_old _ hjc hja, by rw [hr.prev_old _ hjc hja, if_neg hjn, hjp], ?_⟩
      rw [hr.root_old _ hjc hja, hr.root_old i hic ha, hjr]
  case prev =>
    intro i ha hpe
    obtain ⟨hic, ha⟩ := hr.allocated_inv ha
    rw [hr.prev_old i hic ha] at hpe ⊢
    by_cases hin : i = n
    · subst hin
      rw [if_pos rfl] at hpe ⊢
      obtain ⟨hpa, hpn⟩ := hleft hpe
      have hpc : p ≠ c := by
        rintro rfl
        exact absurd (h.prev_climb hc (by rw [hp]; exact hcn)) (by rw [hp]; exact lt_irrefl _)
      exact ⟨hr.allocated_old p hpc hpa, by rw [hr.next_old p hpc hpa, if_pos rfl]⟩
    · rw [if_neg hin] at hpe ⊢
      obtain ⟨hja, hjn⟩ := h.prev i ha hpe
      have hjc : (m.node i).prev ≠ c := by
        intro e
        rw [e, hn] at hjn
        exact hin hjn.symm
      have hjp : (m.node i).prev ≠ p := by
        intro e
        rw [e] at hjn hpe
        exact hic (hjn.symm.trans (hleft hpe).2)
      exact ⟨hr.allocated_old _ hjc hja, by rw [hr.next_old _ hjc hja, if_neg hjp, hjn]⟩
  case climb =>
    intro i ha hne
    obtain ⟨hic, ha⟩ := hr.allocated_inv ha
    rw [hr.next_old i hic ha] at hne ⊢
    by_cases hip : i = p
    · subst hip
      obtain ⟨-, hinx⟩ := hleft (h.ne_noNode ha)
      rw [if_pos rfl] at hne ⊢
      have h1 := h.climb i ha (by rw [hinx]; exact hcn)
      have h2 := h.climb c hc (by rw [hn]; exact hne)
      rw [hinx] at h1
      rw [hn] at h2
      exact h1.trans h2
    · rw [if_neg hip] at hne ⊢
      exact h.climb i ha hne

/-! ### Freeing a chain -/

/-- Giving back every node of one root keeps the links consistent. -/
theorem Mmu.Linked.freeChain (h : m.Linked rank) {r : Word} (ha : (m.node r).allocated = true)
    (hr : (m.node r).root = r) : (m.freeChain r).Linked rank := by
  obtain ⟨-, -, hmem⟩ := h.chainOf ha hr
  have hnode : ∀ i, (m.freeChain r).node i =
      if (m.node i).allocated = true ∧ (m.node i).root = r then Node.free else m.node i := by
    intro i
    rw [Mmu.node_freeChain]
    simp only [hmem]
    by_cases hi : (m.node i).allocated = true
    · simp [h.inPool i hi]
    · simp [hi]
  have hkeep : ∀ i, (m.node i).root ≠ r → (m.freeChain r).node i = m.node i := fun i hi => by
    rw [hnode, if_neg fun hc => hi hc.2]
  have hinv : ∀ i, ((m.freeChain r).node i).allocated = true →
      (m.freeChain r).node i = m.node i ∧ (m.node i).allocated = true ∧ (m.node i).root ≠ r := by
    intro i hi
    rw [hnode] at hi ⊢
    split at hi
    · exact absurd hi (by decide)
    · next hc => exact ⟨if_neg hc, hi, fun e => hc ⟨hi, e⟩⟩
  constructor
  case free =>
    intro i hi
    rw [hnode] at hi ⊢
    split
    · rfl
    · next hc => rw [if_neg hc] at hi; exact h.free i hi
  case inPool => exact fun i hi => h.inPool i (hinv i hi).2.1
  case root =>
    intro i hi
    obtain ⟨e, hia, hir⟩ := hinv i hi
    obtain ⟨h1, h2⟩ := h.root i hia
    rw [e, hkeep _ (by rwa [h2])]
    exact ⟨h1, h2⟩
  case head =>
    intro i hi
    obtain ⟨e, hia, -⟩ := hinv i hi
    rw [e]
    exact h.head i hia
  case next =>
    intro i hi
    obtain ⟨e, hia, hir⟩ := hinv i hi
    rw [e]
    intro hn
    obtain ⟨h1, h2, h3⟩ := h.next i hia hn
    rw [hkeep _ (h3 ▸ hir)]
    exact ⟨h1, h2, h3⟩
  case prev =>
    intro i hi
    obtain ⟨e, hia, hir⟩ := hinv i hi
    rw [e]
    intro hp
    rw [hkeep _ (h.prev_root hia hp ▸ hir)]
    exact h.prev i hia hp
  case climb =>
    intro i hi
    obtain ⟨e, hia, -⟩ := hinv i hi
    rw [e]
    exact h.climb i hia

end

end Sys2Proof.Machine

/-! PROOFS. The commands' changes of links, as insertions and removals (49_mmu_commands.md R467, R479 to R481). -/

namespace Sys2Proof.Machine

/-! ### The commands' changes of chains, without the FRAGD bits -/

/-- INS_BEFORE up to its last marks: counters and links (49_mmu_commands.md R480). -/
def Mmu.joinBefore (m : Mmu) (f c p : Word) : Mmu :=
  let m := m.take f (loByte m.arg2)
  let m := m.setNode f { m.node f with prev := p, next := c }
  let m := m.setPrev c f
  let m :=
    if p = noNode then
      let m := m.setRoots (m.chainOf f) f
      { m with arg1 := f }
    else
      let m := m.setNext p f
      let m := m.setRoot f (m.node c).root
      m.addFragged (disc p f - disc p c)
  m.addFragged (disc f c)

theorem Mmu.spliceBefore_eq (m : Mmu) (f c p : Word) :
    m.spliceBefore f c p = { (((m.joinBefore f c p).refrag p).refrag f).refrag c with rawIndex := f } := rfl

/-- INS_AFTER up to its last marks: counters and links (49_mmu_commands.md R481). -/
def Mmu.joinAfter (m : Mmu) (f c n : Word) : Mmu :=
  let m := m.take f (loByte m.arg2)
  let m := m.setNode f { m.node f with root := (m.node c).root, prev := c, next := n }
  let m := m.setNext c f
  let m :=
    if n = noNode then m
    else (m.setPrev n f).addFragged (disc f n - disc c n)
  m.addFragged (disc c f)

theorem Mmu.spliceAfter_eq (m : Mmu) (f c n : Word) :
    m.spliceAfter f c n = { (((m.joinAfter f c n).refrag c).refrag f).refrag n with rawIndex := f } := rfl

/-- DEL_NODE's change of `blocks_fragged` (49_mmu_commands.md R479). -/
def Mmu.countCut (m : Mmu) (c p n : Word) : Mmu :=
  let m := if p = noNode then m else m.addFragged (0 - disc p c)
  let m := if n = noNode then m else m.addFragged (0 - disc c n)
  if p = noNode ∨ n = noNode then m else m.addFragged (disc p n)

/-- The links around a node that DEL_NODE takes out, and its release, without the roots (49_mmu_commands.md R479). -/
def Mmu.linkAround (m : Mmu) (c p n : Word) : Mmu :=
  let m := if p = noNode then m else m.setNext p n
  let m := if n = noNode then m else m.setPrev n p
  m.release c

/-- DEL_NODE's change of the chain, with the new root of what a head leaves behind (49_mmu_commands.md R479). -/
def Mmu.cutOut (m : Mmu) (c p n : Word) : Mmu :=
  let m := m.linkAround c p n
  if p = noNode then
    let m := if n = noNode then m else m.setRoots (m.chainOf n) n
    { m with arg1 := n }
  else m

theorem Mmu.unlink_eq (m : Mmu) (c p n : Word) :
    m.unlink c p n =
      { (((m.countCut c p n).cutOut c p n).refrag p).refrag n with rawIndex := if n = noNode then p else n } := rfl

theorem Mmu.countCut_pool (m : Mmu) (c p n : Word) : (m.countCut c p n).pool = m.pool := by
  unfold Mmu.countCut
  by_cases hp : p = noNode <;> by_cases hn : n = noNode <;> simp [hp, hn, Mmu.addFragged]

/-- One round of `BuildChain` on the free node found (49_mmu_commands.md R467). -/
def Mmu.buildNode (m : Mmu) (t : Byte) (rootn last f : Word) : Mmu :=
  let m := m.take f t
  let m := m.setNode f { m.node f with root := rootn, prev := last, next := noNode }
  m.linkAfter last f

theorem buildChainFrom_succ (t : Byte) (k : Nat) (rootn last : Word) (m : Mmu) :
    buildChainFrom t (k + 1) rootn last m =
      match m.firstFree with
      | none => ((rootn, false), m)
      | some f => buildChainFrom t k (if rootn = noNode then f else rootn) f
          (m.buildNode t (if rootn = noNode then f else rootn) last f) := rfl

/-- `FirstFree` finds a free node of the pool (R462). -/
theorem firstFreeFrom_spec {m : Mmu} {k i : Nat} {f : Word} (h : firstFreeFrom m k i = some f) (hk : i + k ≤ nodes) :
    (m.node f).allocated = false ∧ f.toNat < nodes := by
  induction k generalizing i with
  | zero => simp [firstFreeFrom] at h
  | succ k ih =>
    rw [firstFreeFrom] at h
    split at h
    · exact ih h (by omega)
    · next hi =>
      cases h
      refine ⟨by simpa using hi, ?_⟩
      rw [BitVec.toNat_ofNat]
      exact (Nat.mod_le _ _).trans_lt (by omega)

theorem Mmu.firstFree_spec {m : Mmu} {f : Word} (h : m.firstFree = some f) :
    (m.node f).allocated = false ∧ f.toNat < nodes :=
  firstFreeFrom_spec h (by simp)

theorem Mmu.cursor_spec {m : Mmu} {c : Word} (h : m.cursor = some c) :
    c = m.rawIndex ∧ c.toNat < nodes ∧ (m.node c).allocated = true := by
  unfold Mmu.cursor at h
  split at h
  · next hc =>
    cases h
    exact ⟨rfl, hc⟩
  · cases h

theorem Node.free_fields : Node.free.allocated = false ∧ Node.free.data = [] ∧ Node.free.root = noNode ∧
    Node.free.prev = noNode ∧ Node.free.next = noNode := by decide

/-! ### FRAGD bits and links do not meet -/

section
variable {m m' : Mmu} {rank : Word → Nat} {c f p n i : Word}

theorem Mmu.refrag_allocated (m : Mmu) (i j : Word) : ((m.refrag i).node j).allocated = (m.node j).allocated := by
  rw [Mmu.node_refrag]
  simp only [Node.allocated]
  split
  · exact withFragd_allocated _ _
  · rfl

theorem Mmu.refrag_node_other {j : Word} (m : Mmu) (h : j ≠ i) : (m.refrag i).node j = m.node j := by
  simp [Mmu.node_refrag, h]

theorem Mmu.refrag_noNode (m : Mmu) : m.refrag noNode = m := by simp [Mmu.refrag]

theorem Mmu.Inserts.refrag (h : m.Inserts m' f p n) (hi : i = noNode ∨ i = f ∨ (m.node i).allocated = true) :
    m.Inserts (m'.refrag i) f p n where
  allocated_new := (m'.refrag_allocated i f).trans h.allocated_new
  prev_new := by rw [Mmu.node_refrag]; exact h.prev_new
  next_new := by rw [Mmu.node_refrag]; exact h.next_new
  root_new := by rw [Mmu.node_refrag]; exact h.root_new
  free_old j hj ha := by
    rcases hi with rfl | rfl | hi
    · rw [Mmu.refrag_noNode]; exact h.free_old j hj ha
    · rw [Mmu.refrag_node_other _ hj]; exact h.free_old j hj ha
    · rw [Mmu.refrag_node_other _ (by rintro rfl; rw [hi] at ha; cases ha)]; exact h.free_old j hj ha
  allocated_old j ha := (m'.refrag_allocated i j).trans (h.allocated_old j ha)
  prev_old j ha := by rw [Mmu.node_refrag]; exact h.prev_old j ha
  next_old j ha := by rw [Mmu.node_refrag]; exact h.next_old j ha
  root_old j ha := by rw [Mmu.node_refrag]; exact h.root_old j ha

theorem Mmu.Removes.refrag (h : m.Removes m' c p n) (hi : i = noNode ∨ i ≠ c ∧ (m.node i).allocated = true) :
    m.Removes (m'.refrag i) c p n where
  released := by
    rcases hi with rfl | hi
    · rw [Mmu.refrag_noNode]; exact h.released
    · rw [Mmu.refrag_node_other _ hi.1.symm]; exact h.released
  free_old j ha := by
    rcases hi with rfl | hi
    · rw [Mmu.refrag_noNode]; exact h.free_old j ha
    · rw [Mmu.refrag_node_other _ (by rintro rfl; rw [hi.2] at ha; cases ha)]; exact h.free_old j ha
  allocated_old j hj ha := (m'.refrag_allocated i j).trans (h.allocated_old j hj ha)
  prev_old j hj ha := by rw [Mmu.node_refrag]; exact h.prev_old j hj ha
  next_old j hj ha := by rw [Mmu.node_refrag]; exact h.next_old j hj ha
  root_old j hj ha := by rw [Mmu.node_refrag]; exact h.root_old j hj ha

/-! ### INS_AFTER and BuildChain -/

theorem Mmu.node_joinAfter (m : Mmu) (hcf : c ≠ f) (hfp : f.toNat < nodes) (hcp : c.toNat < nodes)
    (hnp : n ≠ noNode → n.toNat < nodes) (j : Word) : (m.joinAfter f c n).node j =
      { m.node j with
        status := if j = f then templateStatus (loByte m.arg2) else (m.node j).status
        root := if j = f then (m.node c).root else (m.node j).root
        prev := if j = n ∧ n ≠ noNode then f else if j = f then c else (m.node j).prev
        next := if j = c then f else if j = f then n else (m.node j).next } := by
  unfold Mmu.joinAfter
  by_cases hn : n = noNode
  · simp only [hn, if_true, Mmu.node_addFragged, Mmu.node_setNext, Mmu.node_setNode, Mmu.node_take]
    by_cases hjf : j = f <;> by_cases hjc : j = c <;> simp_all
  · have hnp := hnp hn
    simp only [hn, if_false, Mmu.node_addFragged, Mmu.node_setPrev, Mmu.node_setNext, Mmu.node_setNode, Mmu.node_take]
    by_cases hjf : j = f <;> by_cases hjc : j = c <;> by_cases hjn : j = n <;> simp_all

theorem Mmu.joinAfter_inserts (h : m.Linked rank) (hf : (m.node f).allocated = false) (hfp : f.toNat < nodes)
    (hc : (m.node c).allocated = true) (hn : (m.node c).next = n) : m.Inserts (m.joinAfter f c n) f c n := by
  have hcn := h.ne_noNode hc
  have hne : ∀ i, (m.node i).allocated = true → i ≠ f := by rintro i ha rfl; simp [hf] at ha
  have hna : n ≠ noNode → (m.node n).allocated = true := by rw [← hn]; exact fun e => (h.next c hc e).1
  have hnode := m.node_joinAfter (hne c hc) hfp (h.inPool c hc) (fun e => h.inPool n (hna e))
  have hfn : ¬ (f = n ∧ n ≠ noNode) := fun e => hne n (hna e.2) e.1.symm
  constructor
  case allocated_new => simp only [hnode, if_true, Node.allocated, templateStatus_allocated]
  case prev_new => simp only [hnode, if_neg hfn, if_true]
  case next_new => simp only [hnode, if_neg (hne c hc).symm, if_true]
  case root_new => simp only [hnode, if_neg hcn, if_true]
  case free_old =>
    intro i hif ha
    have hic : i ≠ c := by rintro rfl; rw [hc] at ha; cases ha
    have hin : ¬ (i = n ∧ n ≠ noNode) := by rintro ⟨rfl, e⟩; rw [hna e] at ha; cases ha
    simp only [hnode, if_neg hif, if_neg hic, if_neg hin]
  case allocated_old => intro i ha; rw [hnode, if_neg (hne i ha)]; exact ha
  case prev_old =>
    intro i ha
    have hin : (i = n ∧ n ≠ noNode) = (i = n) := by
      simp only [eq_iff_iff, and_iff_left_iff_imp]
      rintro rfl; exact h.ne_noNode ha
    simp only [hnode, if_neg (hne i ha), hin]
  case next_old => intro i ha; simp only [hnode, if_neg (hne i ha)]
  case root_old =>
    intro i ha
    simp only [hnode, if_neg (hne i ha), hcn, false_and, if_false]

/-- Only the pool matters to the links. -/
theorem Mmu.Linked.of_pool_eq (h : m.Linked rank) (hp : m'.pool = m.pool) : m'.Linked rank := by
  have hn := Mmu.node_of_pool_eq hp
  obtain ⟨h1, h2, h3, h4, h5, h6, h7⟩ := h
  rw [← hn] at h1 h2 h3 h4 h5 h6 h7
  exact ⟨h1, h2, h3, h4, h5, h6, h7⟩

/-- INS_AFTER keeps the chain invariants (49_mmu_commands.md R481). -/
theorem Mmu.Linked.spliceAfter (h : m.Linked rank) (hf : (m.node f).allocated = false) (hfp : f.toNat < nodes)
    (hc : (m.node c).allocated = true) :
    (m.spliceAfter f c (m.node c).next).Linked (rankWith rank f c) := by
  have hn : (m.node c).next = noNode ∨ (m.node c).next = f ∨ (m.node (m.node c).next).allocated = true :=
    (em _).imp id fun e => .inr (h.next c hc e).1
  have hi := (((m.joinAfter_inserts h hf hfp hc rfl).refrag (.inr (.inr hc))).refrag (.inr (.inl rfl))).refrag hn
  have hg : m.Gap c (m.node c).next := ⟨fun _ => ⟨hc, rfl⟩, fun e => ⟨(h.next c hc e).1, (h.next c hc e).2.1⟩⟩
  rw [Mmu.spliceAfter_eq]
  exact (h.insert hf hfp hg hi).of_pool_eq rfl

/-! ### BuildChain -/

/-- Where `BuildChain` stands: before the first node, or at the last node of the chain it has built (R467). -/
def Mmu.BuildsAt (m : Mmu) (rootn last : Word) : Prop :=
  rootn = noNode ∧ last = noNode ∨
    (m.node last).allocated = true ∧ (m.node last).next = noNode ∧ (m.node last).root = rootn

theorem Mmu.node_buildNode (m : Mmu) (t : Byte) (rootn : Word) {last : Word} (hlf : last ≠ f) (hfp : f.toNat < nodes)
    (hlp : last ≠ noNode → last.toNat < nodes) (j : Word) : (m.buildNode t rootn last f).node j =
      { m.node j with
        status :=
          if (j = last ∨ j = f) ∧ last ≠ noNode ∧ discontinuous last f = true then
            withFragd (if j = f then templateStatus t else (m.node j).status) true
          else if j = f then templateStatus t else (m.node j).status
        root := if j = f then rootn else (m.node j).root
        prev := if j = f then last else (m.node j).prev
        next := if j = last ∧ last ≠ noNode then f else if j = f then noNode else (m.node j).next } := by
  unfold Mmu.buildNode
  simp only [Mmu.node_linkAfter, Mmu.node_setNode, Mmu.node_take]
  by_cases hl : last = noNode
  · simp only [hl, noNode_not_inPool]
    by_cases hjf : j = f <;> simp_all
  · have hlp := hlp hl
    by_cases hjf : j = f <;> by_cases hjl : j = last <;> simp_all

theorem Mmu.BuildsAt.ne_new {rootn last : Word} (hb : m.BuildsAt rootn last) (hf : (m.node f).allocated = false)
    (hfp : f.toNat < nodes) : last ≠ f := by
  rintro rfl
  rcases hb with ⟨-, rfl⟩ | ⟨ha, -⟩
  · exact noNode_not_inPool hfp
  · rw [ha] at hf; cases hf

theorem Mmu.BuildsAt.allocated_last {rootn last : Word} (hb : m.BuildsAt rootn last) (hl : last ≠ noNode) :
    (m.node last).allocated = true ∧ (m.node last).next = noNode ∧ (m.node last).root = rootn :=
  hb.resolve_left fun e => hl e.2

theorem Mmu.BuildsAt.rootn_eq {rootn last : Word} (hb : m.BuildsAt rootn last) (h : m.Linked rank) :
    (if rootn = noNode then f else rootn) = if last = noNode then f else (m.node last).root := by
  rcases hb with ⟨rfl, rfl⟩ | ⟨ha, -, rfl⟩
  · rfl
  · rw [if_neg (h.ne_noNode (h.root last ha).1), if_neg (h.ne_noNode ha)]

theorem Mmu.BuildsAt.gap {rootn last : Word} (hb : m.BuildsAt rootn last) : m.Gap last noNode :=
  ⟨fun hl => ⟨(hb.allocated_last hl).1, (hb.allocated_last hl).2.1⟩, fun e => absurd rfl e⟩

theorem Mmu.buildNode_inserts (h : m.Linked rank) (hf : (m.node f).allocated = false) (hfp : f.toNat < nodes)
    {rootn last : Word} (hb : m.BuildsAt rootn last) (t : Byte) :
    m.Inserts (m.buildNode t (if rootn = noNode then f else rootn) last f) f last noNode := by
  have hne : ∀ i, (m.node i).allocated = true → i ≠ f := by rintro i ha rfl; simp [hf] at ha
  have hlf := hb.ne_new hf hfp
  have hla : last ≠ noNode → (m.node last).allocated = true := fun e => (hb.allocated_last e).1
  have hnode := m.node_buildNode t (if rootn = noNode then f else rootn) hlf hfp fun e => h.inPool _ (hla e)
  have hlast : ∀ i, (m.node i).allocated = true → (i = last ∧ last ≠ noNode) = (i = last) := by
    intro i ha
    simp only [eq_iff_iff, and_iff_left_iff_imp]
    rintro rfl; exact h.ne_noNode ha
  constructor
  case allocated_new =>
    rw [hnode, if_pos rfl, Node.allocated]
    split <;> simp only [withFragd_allocated, templateStatus_allocated]
  case prev_new => simp only [hnode, if_true]
  case next_new => simp only [hnode, hlf.symm, false_and, if_false, if_true]
  case root_new =>
    rw [hnode]
    simp only [if_true]
    exact hb.rootn_eq h
  case free_old =>
    intro i hif ha
    have hil : ¬ (i = last ∧ last ≠ noNode) := by rintro ⟨rfl, e⟩; rw [hla e] at ha; cases ha
    have hst : ¬ ((i = last ∨ i = f) ∧ last ≠ noNode ∧ discontinuous last f = true) := fun e =>
      hil ⟨e.1.resolve_right hif, e.2.1⟩
    simp only [hnode, if_neg hif, if_neg hil, if_neg hst]
  case allocated_old =>
    intro i ha
    rw [hnode, if_neg (hne i ha), Node.allocated]
    split
    · rw [withFragd_allocated]; exact ha
    · exact ha
  case prev_old => intro i ha; simp only [hnode, if_neg (hne i ha), if_neg (h.ne_noNode ha)]
  case next_old => intro i ha; simp only [hnode, if_neg (hne i ha), hlast i ha]
  case root_old =>
    intro i ha
    simp only [hnode, if_neg (hne i ha), if_neg fun e => h.ne_noNode (h.root i ha).1 (And.right e)]

/-- Each round of `BuildChain` ends at the node it took. -/
theorem Mmu.BuildsAt.buildNode {rootn last : Word} (hb : m.BuildsAt rootn last) (h : m.Linked rank)
    (hf : (m.node f).allocated = false) (hfp : f.toNat < nodes) (t : Byte) :
    (m.buildNode t (if rootn = noNode then f else rootn) last f).BuildsAt (if rootn = noNode then f else rootn) f := by
  have hi := m.buildNode_inserts h hf hfp hb t
  exact .inr ⟨hi.allocated_new, hi.next_new, hi.root_new.trans (hb.rootn_eq h).symm⟩

/-- One round of `BuildChain` keeps the chain invariants (49_mmu_commands.md R467). -/
theorem Mmu.Linked.buildNode (h : m.Linked rank) (hf : (m.node f).allocated = false) (hfp : f.toNat < nodes)
    {rootn last : Word} (hb : m.BuildsAt rootn last) (t : Byte) :
    (m.buildNode t (if rootn = noNode then f else rootn) last f).Linked (rankWith rank f last) :=
  h.insert hf hfp hb.gap (m.buildNode_inserts h hf hfp hb t)

/-! ### INS_BEFORE -/

/-- The links of a node spliced in before `c`, without the roots (49_mmu_commands.md R480). -/
def Mmu.linkBefore (m : Mmu) (f c p : Word) : Mmu :=
  let m := m.take f (loByte m.arg2)
  let m := m.setNode f { m.node f with prev := p, next := c }
  m.setPrev c f

theorem Mmu.node_linkBefore (m : Mmu) (hcf : c ≠ f) (hfp : f.toNat < nodes) (hcp : c.toNat < nodes) (j : Word) :
    (m.linkBefore f c p).node j =
      { m.node j with
        status := if j = f then templateStatus (loByte m.arg2) else (m.node j).status
        prev := if j = c then f else if j = f then p else (m.node j).prev
        next := if j = f then c else (m.node j).next } := by
  unfold Mmu.linkBefore
  simp only [Mmu.node_setPrev, Mmu.node_setNode, Mmu.node_take]
  by_cases hjf : j = f <;> by_cases hjc : j = c <;> simp_all

/-- A node spliced in before a head starts a chain of that node and the old chain. -/
theorem Mmu.Linked.chainOf_linkBefore (h : m.Linked rank) (hf : (m.node f).allocated = false) (hfp : f.toNat < nodes)
    (hc : (m.node c).allocated = true) (hp : (m.node c).prev = noNode) (j : Word) :
    j ∈ (m.linkBefore f c noNode).chainOf f ↔ j = f ∨ (m.node j).allocated = true ∧ (m.node j).root = c := by
  have hne : ∀ i, (m.node i).allocated = true → i ≠ f := by rintro i ha rfl; simp [hf] at ha
  have hnode := m.node_linkBefore (p := noNode) (hne c hc) hfp (h.inPool c hc)
  have hroot := (h.head c hc).mp hp
  have hfn : f ≠ noNode := by rintro rfl; exact noNode_not_inPool hfp
  have hnext : ∀ i, (m.node i).allocated = true → ((m.linkBefore f c noNode).node i).next = (m.node i).next :=
    fun i ha => by simp only [hnode, if_neg (hne i ha)]
  have hclimb : (m.linkBefore f c noNode).Climbs
      (fun i => i = f ∨ (m.node i).allocated = true ∧ (m.node i).root = c) (rankWith rank f noNode) := by
    rintro i (rfl | ⟨ha, hr⟩)
    · refine ⟨hfp, fun _ => ?_⟩
      simp only [hnode, if_true]
      exact ⟨.inr ⟨hc, hroot⟩, by simp [rankWith, hne c hc]⟩
    · refine ⟨h.inPool i ha, ?_⟩
      rw [hnext i ha]
      intro hn
      obtain ⟨hna, -, hnr⟩ := h.next i ha hn
      have := h.climb i ha hn
      refine ⟨.inr ⟨hna, hnr.trans hr⟩, ?_⟩
      simp only [rankWith, if_neg (hne i ha), if_neg (hne _ hna)]
      omega
  obtain ⟨hchain, -, hmem⟩ := hclimb.chainOf (i := f) (.inl rfl)
  have hfm := hchain.head_mem hfn
  have hfc : ((m.linkBefore f c noNode).node f).next = c := by simp only [hnode, if_true]
  refine ⟨hmem j, ?_⟩
  rintro (rfl | ⟨ha, hr⟩)
  · exact hfm
  · refine h.mem_of_closed (r := c) ?_ (fun i hi hia hn => ?_) ha hr
    · have := hchain.next_mem hfm (by rw [hfc]; exact h.ne_noNode hc)
      rwa [hfc] at this
    · rw [← hnext i hia] at hn ⊢
      exact hchain.next_mem hi hn

theorem Mmu.joinBefore_head (m : Mmu) (f c : Word) : (m.joinBefore f c noNode).node =
    ((m.linkBefore f c noNode).setRoots ((m.linkBefore f c noNode).chainOf f) f).node := rfl

theorem Mmu.joinBefore_inner (m : Mmu) (f c : Word) (hp : p ≠ noNode) : (m.joinBefore f c p).node =
    (((m.linkBefore f c p).setNext p f).setRoot f (((m.linkBefore f c p).setNext p f).node c).root).node := by
  unfold Mmu.joinBefore
  simp only [if_neg hp]
  rfl

theorem Mmu.joinBefore_inserts (h : m.Linked rank) (hf : (m.node f).allocated = false) (hfp : f.toNat < nodes)
    (hc : (m.node c).allocated = true) (hp : (m.node c).prev = p) : m.Inserts (m.joinBefore f c p) f p c := by
  have hne : ∀ i, (m.node i).allocated = true → i ≠ f := by rintro i ha rfl; simp [hf] at ha
  have hcp := h.inPool c hc
  have hlink := m.node_linkBefore (p := p) (hne c hc) hfp hcp
  have hpa : p ≠ noNode → (m.node p).allocated = true := by rw [← hp]; exact fun e => (h.prev c hc e).1
  have hnode : ∀ j, (m.joinBefore f c p).node j =
      { (m.linkBefore f c p).node j with
        root := if p = noNode then (if j = f ∨ (m.node j).allocated = true ∧ (m.node j).root = c then f else (m.node j).root)
          else if j = f then (m.node p).root else (m.node j).root
        next := if j = p ∧ p ≠ noNode then f else if j = f then c else (m.node j).next } := by
    intro j
    by_cases hpn : p = noNode
    · subst hpn
      have hj : (j = f ∨ (m.node j).allocated = true ∧ (m.node j).root = c) → j.toNat < nodes := by
        rintro (rfl | ⟨ha, -⟩)
        · exact hfp
        · exact h.inPool j ha
      simp [Mmu.joinBefore_head, Mmu.node_setRoots, h.chainOf_linkBefore hf hfp hc hp, hlink, and_iff_left_of_imp hj]
    · have hpr := h.prev_root hc (hp ▸ hpn)
      rw [hp] at hpr
      simp [Mmu.joinBefore_inner m f c hpn, Mmu.node_setRoot, Mmu.node_setNext, hlink, hpn, hfp, h.inPool p (hpa hpn),
        (hne c hc), hpr]
  have hfp' : ¬ (f = p ∧ p ≠ noNode) := fun e => hne p (hpa e.2) e.1.symm
  constructor
  case allocated_new => simp only [hnode, hlink, if_true, Node.allocated, templateStatus_allocated]
  case prev_new => simp only [hnode, hlink, if_neg (hne c hc).symm, if_true]
  case next_new => simp only [hnode, if_neg hfp', if_true]
  case root_new => simp only [hnode, true_or, if_true]
  case free_old =>
    intro i hif ha
    have hic : i ≠ c := by rintro rfl; rw [hc] at ha; cases ha
    have hip : ¬ (i = p ∧ p ≠ noNode) := by rintro ⟨rfl, e⟩; rw [hpa e] at ha; cases ha
    simp [hnode, hlink, hif, hic, hip, ha]
  case allocated_old => intro i ha; rw [hnode, hlink, if_neg (hne i ha)]; exact ha
  case prev_old => intro i ha; simp only [hnode, hlink, if_neg (hne i ha)]
  case next_old =>
    intro i ha
    have hip : (i = p ∧ p ≠ noNode) = (i = p) := by
      simp only [eq_iff_iff, and_iff_left_iff_imp]
      rintro rfl; exact h.ne_noNode ha
    simp only [hnode, if_neg (hne i ha), hip]
  case root_old =>
    intro i ha
    rw [hnode]
    by_cases hpn : p = noNode <;> simp [hne i ha, ha, hpn]

/-- INS_BEFORE keeps the chain invariants (49_mmu_commands.md R480). -/
theorem Mmu.Linked.spliceBefore (h : m.Linked rank) (hf : (m.node f).allocated = false) (hfp : f.toNat < nodes)
    (hc : (m.node c).allocated = true) :
    (m.spliceBefore f c (m.node c).prev).Linked (rankWith rank f (m.node c).prev) := by
  have hp : (m.node c).prev = noNode ∨ (m.node c).prev = f ∨ (m.node (m.node c).prev).allocated = true :=
    (em _).imp id fun e => .inr (h.prev c hc e).1
  have hi := (((m.joinBefore_inserts h hf hfp hc rfl).refrag hp).refrag (.inr (.inl rfl))).refrag (.inr (.inr hc))
  rw [Mmu.spliceBefore_eq]
  exact (h.insert hf hfp ⟨fun e => h.prev c hc e, fun _ => ⟨hc, rfl⟩⟩ hi).of_pool_eq rfl

/-! ### DEL_NODE -/

theorem Mmu.node_linkAround (m : Mmu) (hcp : c.toNat < nodes) (hpp : p ≠ noNode → p.toNat < nodes)
    (hnp : n ≠ noNode → n.toNat < nodes) (j : Word) : (m.linkAround c p n).node j =
      if j = c then Node.free
      else { m.node j with
        prev := if j = n ∧ n ≠ noNode then p else (m.node j).prev
        next := if j = p ∧ p ≠ noNode then n else (m.node j).next } := by
  unfold Mmu.linkAround
  by_cases hp : p = noNode <;> by_cases hn : n = noNode <;>
    simp [hp, hn, hcp, hpp, hnp, Mmu.node_release, Mmu.node_setPrev, Mmu.node_setNext]

/-- What is left of a chain whose head was taken out starts at the head's successor. -/
theorem Mmu.Linked.chainOf_linkAround (h : m.Linked rank) (hc : (m.node c).allocated = true)
    (hp : (m.node c).prev = noNode) (hn : (m.node c).next = n) (hnn : n ≠ noNode) (j : Word) :
    j ∈ (m.linkAround c noNode n).chainOf n ↔ j ≠ c ∧ (m.node j).allocated = true ∧ (m.node j).root = c := by
  have hroot := (h.head c hc).mp hp
  obtain ⟨hna, hnp, hnr⟩ := h.next c hc (hn ▸ hnn)
  rw [hn] at hna hnp hnr
  have hnode := m.node_linkAround (p := noNode) (n := n) (h.inPool c hc) (fun e => absurd rfl e) (fun _ => h.inPool n hna)
  have hnext : ∀ i, i ≠ c → ((m.linkAround c noNode n).node i).next = (m.node i).next := fun i hi => by
    simp [hnode, hi]
  have hnc : n ≠ c := by rintro rfl; exact h.ne_noNode hc (hnp.symm.trans hp)
  have hclimb : (m.linkAround c noNode n).Climbs
      (fun i => i ≠ c ∧ (m.node i).allocated = true ∧ (m.node i).root = c) rank := by
    rintro i ⟨hi, ha, hr⟩
    refine ⟨h.inPool i ha, ?_⟩
    rw [hnext i hi]
    intro hin
    obtain ⟨hja, hjp, hjr⟩ := h.next i ha hin
    refine ⟨⟨?_, hja, hjr.trans hr⟩, h.climb i ha hin⟩
    intro e
    rw [e, hp] at hjp
    exact h.ne_noNode ha hjp.symm
  obtain ⟨hchain, -, hmem⟩ := hclimb.chainOf (i := n) ⟨hnc, hna, hnr.trans hroot⟩
  refine ⟨hmem j, fun ⟨hj, ha, hr⟩ => ?_⟩
  have hnm := hchain.head_mem hnn
  have hcl : j ∈ c :: (m.linkAround c noNode n).chainOf n := by
    refine h.mem_of_closed (r := c) (by simp) (fun i hi _ hin => ?_) ha hr
    by_cases hic : i = c
    · rw [hic, hn]
      exact List.mem_cons_of_mem _ hnm
    · rw [← hnext i hic] at hin ⊢
      exact List.mem_cons_of_mem _ (hchain.next_mem ((List.mem_cons.mp hi).resolve_left hic) hin)
  exact (List.mem_cons.mp hcl).resolve_left hj

theorem Mmu.node_cutOut (m : Mmu) (c p n : Word) : (m.cutOut c p n).node =
    if p = noNode ∧ n ≠ noNode then
      ((m.linkAround c p n).setRoots ((m.linkAround c p n).chainOf n) n).node
    else (m.linkAround c p n).node := by
  unfold Mmu.cutOut
  by_cases hp : p = noNode
  · by_cases hn : n = noNode
    · simp only [hp, hn, if_true, ne_eq, not_true, and_false, if_false]
      rfl
    · simp only [hp, hn, if_true, if_false, ne_eq, not_false_iff, and_true]
      rfl
  · simp only [hp, if_false, false_and]

theorem Mmu.cutOut_removes (h : m.Linked rank) (hc : (m.node c).allocated = true) (hp : (m.node c).prev = p)
    (hn : (m.node c).next = n) : m.Removes (m.cutOut c p n) c p n := by
  have hcp := h.inPool c hc
  have hpa : p ≠ noNode → (m.node p).allocated = true := by rw [← hp]; exact fun e => (h.prev c hc e).1
  have hna : n ≠ noNode → (m.node n).allocated = true := by rw [← hn]; exact fun e => (h.next c hc e).1
  have hlink := m.node_linkAround (c := c) (p := p) (n := n) hcp (fun e => h.inPool p (hpa e)) fun e => h.inPool n (hna e)
  have hnode : ∀ j, (m.cutOut c p n).node j =
      { (m.linkAround c p n).node j with
        root := if j ≠ c ∧ (m.node j).allocated = true ∧ p = noNode ∧ (m.node j).root = c then n
          else ((m.linkAround c p n).node j).root } := by
    intro j
    rw [Mmu.node_cutOut]
    split
    · next hpn =>
      obtain ⟨rfl, hnn⟩ := hpn
      have hj : (j ≠ c ∧ (m.node j).allocated = true ∧ (m.node j).root = c) → j.toNat < nodes := fun e => h.inPool j e.2.1
      simp [Mmu.node_setRoots, h.chainOf_linkAround hc hp hn hnn, -ne_eq, and_iff_left_of_imp hj]
    · next hpn =>
      have hj : ¬ (j ≠ c ∧ (m.node j).allocated = true ∧ p = noNode ∧ (m.node j).root = c) := fun ⟨hjc, ha, hp', hr⟩ =>
        hjc (h.eq_of_root_alone (hn.trans (not_not.mp fun e => hpn ⟨hp', e⟩)) ha hr)
      rw [if_neg hj]
  constructor
  case released => simp [hnode, hlink, Node.free]
  case free_old =>
    intro i ha
    have hic : i ≠ c := by rintro rfl; rw [hc] at ha; cases ha
    have hip : ¬ (i = p ∧ p ≠ noNode) := by rintro ⟨rfl, e⟩; rw [hpa e] at ha; cases ha
    have hin : ¬ (i = n ∧ n ≠ noNode) := by rintro ⟨rfl, e⟩; rw [hna e] at ha; cases ha
    simp only [hnode, hlink, if_neg hic, if_neg hip, if_neg hin]
    simp [ha]
  case allocated_old => intro i hic ha; rw [hnode, hlink, if_neg hic]; exact ha
  case prev_old =>
    intro i hic ha
    have hin : (i = n ∧ n ≠ noNode) = (i = n) := by
      simp only [eq_iff_iff, and_iff_left_iff_imp]
      rintro rfl; exact h.ne_noNode ha
    simp only [hnode, hlink, if_neg hic, hin]
  case next_old =>
    intro i hic ha
    have hip : (i = p ∧ p ≠ noNode) = (i = p) := by
      simp only [eq_iff_iff, and_iff_left_iff_imp]
      rintro rfl; exact h.ne_noNode ha
    simp only [hnode, hlink, if_neg hic, hip]
  case root_old =>
    intro i hic ha
    simp [hnode, hlink, hic, ha]

/-- Only the pool matters to a removal. -/
theorem Mmu.Removes.of_pool_eq {x : Mmu} (hr : x.Removes m' c p n) (hp : x.pool = m.pool) : m.Removes m' c p n := by
  have hn := Mmu.node_of_pool_eq hp
  obtain ⟨h1, h2, h3, h4, h5, h6⟩ := hr
  rw [hn] at h2 h3 h4 h5 h6
  exact ⟨h1, h2, h3, h4, h5, h6⟩

/-- The counters that DEL_NODE writes first play no part in the links. -/
theorem Mmu.countCut_removes (h : m.Linked rank) (hc : (m.node c).allocated = true) (hp : (m.node c).prev = p)
    (hn : (m.node c).next = n) : m.Removes ((m.countCut c p n).cutOut c p n) c p n := by
  have hpool := m.countCut_pool c p n
  have h := h.of_pool_eq hpool
  rw [← Mmu.node_of_pool_eq hpool] at hc hp hn
  exact (Mmu.cutOut_removes h hc hp hn).of_pool_eq hpool

theorem Mmu.Linked.prev_other (h : m.Linked rank) (hc : (m.node c).allocated = true) :
    (m.node c).prev = noNode ∨ (m.node c).prev ≠ c ∧ (m.node (m.node c).prev).allocated = true :=
  (em _).imp id fun e => ⟨fun he => absurd (h.prev_climb hc e) (by rw [he]; exact lt_irrefl _), (h.prev c hc e).1⟩

theorem Mmu.Linked.next_other (h : m.Linked rank) (hc : (m.node c).allocated = true) :
    (m.node c).next = noNode ∨ (m.node c).next ≠ c ∧ (m.node (m.node c).next).allocated = true :=
  (em _).imp id fun e => ⟨fun he => absurd (h.climb c hc e) (by rw [he]; exact lt_irrefl _), (h.next c hc e).1⟩

/-- DEL_NODE keeps the chain invariants (49_mmu_commands.md R479). -/
theorem Mmu.Linked.unlink (h : m.Linked rank) (hc : (m.node c).allocated = true) :
    (m.unlink c (m.node c).prev (m.node c).next).Linked rank := by
  have hr := ((Mmu.countCut_removes h hc rfl rfl).refrag (h.prev_other hc)).refrag (h.next_other hc)
  rw [Mmu.unlink_eq]
  exact (h.remove hc rfl rfl hr).of_pool_eq rfl

end

end Sys2Proof.Machine

/-! PROOFS. Every command keeps what each of its changes keeps; the chain invariants are such a property. -/

namespace Sys2Proof.Machine

/-- What a property of the MMU needs so that every command keeps it: one condition for each of the changes that commands are
made of (49_mmu_commands.md R462 to R490). -/
structure Mmu.CommandInvariant (P : Mmu → Prop) : Prop where
  registers : ∀ {m m' : Mmu}, P m → m'.pool = m.pool → m'.blocksFree = m.blocksFree →
    m'.blocksAllocated = m.blocksAllocated → m'.blocksFragged = m.blocksFragged → P m'
  construct : P Mmu.construct
  freeChain : ∀ {m : Mmu} {h : Word}, P m → (m.node h).allocated = true → (m.node h).root = h → P (m.freeChain h)
  unlink : ∀ {m : Mmu} {c : Word}, P m → (m.node c).allocated = true → P (m.unlink c (m.node c).prev (m.node c).next)
  spliceBefore : ∀ {m : Mmu} {f c : Word}, P m → (m.node f).allocated = false → f.toNat < nodes →
    (m.node c).allocated = true → P (m.spliceBefore f c (m.node c).prev)
  spliceAfter : ∀ {m : Mmu} {f c : Word}, P m → (m.node f).allocated = false → f.toNat < nodes →
    (m.node c).allocated = true → P (m.spliceAfter f c (m.node c).next)
  buildChain : ∀ {m : Mmu} (count : Nat) (t : Byte), P m → P (m.buildChain count t).2
  setStatus : ∀ {m : Mmu} {c : Word} {v : Byte}, P m → (m.node c).allocated = true → c.toNat < nodes →
    v.getLsbD 0 = true → v.getLsbD 3 = (m.node c).status.getLsbD 3 → P (m.setStatus c v)

section
variable {P : Mmu → Prop} {e : ErrorCodes} {m : Mmu}

theorem Mmu.validHandle_spec {h : Word} (hv : m.validHandle h = true) :
    (m.node h).allocated = true ∧ (m.node h).root = h := by
  simp only [Mmu.validHandle, Bool.and_eq_true, beq_iff_eq] at hv
  exact ⟨hv.1.2, hv.2⟩

/-- A command on the cursor runs on an allocated node of the pool, or changes nothing (R469). -/
theorem Mmu.onCursor_keeps {f : Word → CommandResult} (h : P m)
    (hf : ∀ c, c.toNat < nodes → (m.node c).allocated = true → P (f c).1) : P (m.onCursor e f).1 := by
  unfold Mmu.onCursor
  split
  · exact h
  · next c hc =>
    obtain ⟨-, hp, ha⟩ := Mmu.cursor_spec hc
    exact hf c hp ha

namespace Mmu.CommandInvariant

theorem loadRoot (hP : CommandInvariant P) (h : P m) : P (m.loadRoot e).1 :=
  Mmu.onCursor_keeps h fun _ _ _ => hP.registers h rfl rfl rfl rfl

theorem loadLast (hP : CommandInvariant P) (h : P m) : P (m.loadLast e).1 :=
  Mmu.onCursor_keeps h fun _ _ _ => hP.registers h rfl rfl rfl rfl

theorem delNode (hP : CommandInvariant P) (h : P m) : P (m.delNode e).1 :=
  Mmu.onCursor_keeps h fun c _ ha => by
    split
    · exact h
    · exact hP.unlink h ha

theorem insBefore (hP : CommandInvariant P) (h : P m) : P (m.insBefore e).1 :=
  Mmu.onCursor_keeps h fun c _ ha => by
    split
    · exact h
    · split
      · exact h
      · next f hf => exact hP.spliceBefore h (Mmu.firstFree_spec hf).1 (Mmu.firstFree_spec hf).2 ha

theorem insAfter (hP : CommandInvariant P) (h : P m) : P (m.insAfter e).1 :=
  Mmu.onCursor_keeps h fun c _ ha => by
    split
    · exact h
    · next f hf => exact hP.spliceAfter h (Mmu.firstFree_spec hf).1 (Mmu.firstFree_spec hf).2 ha

theorem compose (hP : CommandInvariant P) {first second : Mmu → CommandResult} (h1 : ∀ {m}, P m → P (first m).1)
    (h2 : ∀ {m}, P m → P (second m).1) (h : P m) : P (m.compose first second).1 := by
  have hf := h1 h
  unfold Mmu.compose
  split
  · next hr => rwa [hr] at hf
  · next hr =>
    rw [hr] at hf
    have hs := h2 hf
    split
    · next hr' => rwa [hr'] at hs
    · next hr' =>
      rw [hr'] at hs
      exact hP.registers hs rfl rfl rfl rfl

theorem pgAlloc (hP : CommandInvariant P) (h : P m) : P (m.pgAlloc e).1 := by
  unfold Mmu.pgAlloc
  split
  · exact hP.registers h rfl rfl rfl rfl
  · exact hP.registers (hP.buildChain _ _ h) rfl rfl rfl rfl

theorem alloc (hP : CommandInvariant P) (h : P m) : P (m.alloc e).1 := by
  unfold Mmu.alloc
  split
  · exact hP.registers h rfl rfl rfl rfl
  · dsimp only
    split
    · exact hP.registers (hP.buildChain _ _ h) rfl rfl rfl rfl
    · exact hP.registers (hP.buildChain _ _ h) rfl rfl rfl rfl

theorem releaseHandle (hP : CommandInvariant P) (h : P m) (hv : m.validHandle m.arg1 = true) :
    P { m.freeChain m.arg1 with arg1 := noNode } :=
  hP.registers (hP.freeChain h (Mmu.validHandle_spec hv).1 (Mmu.validHandle_spec hv).2) rfl rfl rfl rfl

theorem pgFree (hP : CommandInvariant P) (h : P m) : P (m.pgFree e).1 := by
  unfold Mmu.pgFree
  split
  · exact h
  · next hc => exact hP.releaseHandle h (by simpa using (not_or.mp hc).1)

theorem free (hP : CommandInvariant P) (h : P m) : P (m.free e).1 := by
  unfold Mmu.free
  split
  · exact h
  · next hv =>
    split
    · exact h
    · exact hP.releaseHandle h (by simpa using hv)

/-- Every command keeps such a property. -/
theorem run (hP : CommandInvariant P) (h : P m) (k : MmuCommand) : P (m.run e k).1 := by
  cases k with
  | nop => exact h
  | defrag => exact h
  | pgAlloc => exact hP.pgAlloc h
  | pgFree => exact hP.pgFree h
  | alloc => exact hP.alloc h
  | free => exact hP.free h
  | loadRoot => exact hP.loadRoot h
  | loadNext =>
    refine Mmu.onCursor_keeps h fun c _ _ => ?_
    split
    · exact h
    · exact hP.registers h rfl rfl rfl rfl
  | loadPrev =>
    refine Mmu.onCursor_keeps h fun c _ _ => ?_
    split
    · exact h
    · exact hP.registers h rfl rfl rfl rfl
  | loadLast => exact hP.loadLast h
  | delNode => exact hP.delNode h
  | insBefore => exact hP.insBefore h
  | insAfter => exact hP.insAfter h
  | pushBack => exact hP.compose hP.loadLast hP.insAfter h
  | pushFront => exact hP.compose hP.loadRoot hP.insBefore h
  | popBack => exact hP.compose hP.loadLast hP.delNode h
  | popFront => exact hP.compose hP.loadRoot hP.delNode h
  | lockNode =>
    refine Mmu.onCursor_keeps h fun c hc ha => hP.setStatus h ha hc ?_ ?_
    · rw [BitVec.getLsbD_or]
      exact Bool.or_eq_true_iff.mpr (.inl ha)
    · simp [statusLocked]
  | unlockNode =>
    refine Mmu.onCursor_keeps h fun c hc ha => hP.setStatus h ha hc ?_ ?_
    · rw [BitVec.getLsbD_and]
      exact Bool.and_eq_true_iff.mpr ⟨ha, by decide⟩
    · simp [statusLocked]
  | reset => exact hP.registers hP.construct rfl rfl rfl rfl
  | size =>
    show P (m.size e).1
    unfold Mmu.size
    split
    · exact h
    · exact hP.registers h rfl rfl rfl rfl

theorem dispatch (hP : CommandInvariant P) (h : P m) (cfg : Config) (v : Byte) : P (m.dispatch cfg v) := by
  have h0 : P { m with command := v, error := cfg.errors.none } := hP.registers h rfl rfl rfl rfl
  unfold Mmu.dispatch
  dsimp only
  split
  · exact hP.registers h0 rfl rfl rfl rfl
  · next k _ =>
    have hr := hP.run (e := cfg.errors) h0 k
    generalize Mmu.run _ _ _ = r at hr
    obtain ⟨m', _ | code⟩ := r
    · exact hr
    · exact hP.registers hr rfl rfl rfl rfl

end Mmu.CommandInvariant

/-! ### The chain invariants -/

theorem Mmu.linked_construct : Mmu.construct.Linked fun _ => 0 := by
  have hfree : ∀ i, Mmu.construct.node i = Node.free := fun _ => rfl
  have hno : ∀ i, ¬ (Mmu.construct.node i).allocated = true := fun i => by rw [hfree]; decide
  constructor
  case free => exact fun i _ => hfree i
  all_goals exact fun i ha => absurd ha (hno i)

/-- A change of status bits other than ALLOCATED leaves the links alone. -/
theorem Mmu.Linked.setStatus {rank : Word → Nat} (h : m.Linked rank) {c : Word} {v : Byte}
    (hc : (m.node c).allocated = true) (hv : v.getLsbD 0 = true) : (m.setStatus c v).Linked rank := by
  have hnode := m.node_setStatus c (v := v)
  have ha : ∀ i, ((m.setStatus c v).node i).allocated = (m.node i).allocated := by
    intro i
    rw [hnode, Node.allocated]
    split
    · next hi => rw [hv, hi.1, hc]
    · rfl
  constructor
  case free =>
    intro i hi
    rw [ha] at hi
    have hic : i ≠ c := by rintro rfl; rw [hc] at hi; cases hi
    simpa [hnode, hic] using h.free i hi
  case inPool => exact fun i hi => h.inPool i (ha i ▸ hi)
  all_goals simp only [ha]; simp only [hnode]
  case root => exact h.root
  case head => exact h.head
  case next => exact h.next
  case prev => exact h.prev
  case climb => exact h.climb

theorem Mmu.linked_buildChainFrom {rank : Word → Nat} (h : m.Linked rank) (t : Byte) (k : Nat) {rootn last : Word}
    (hb : m.BuildsAt rootn last) : ∃ rank', (buildChainFrom t k rootn last m).2.Linked rank' := by
  induction k generalizing m rank rootn last with
  | zero => exact ⟨rank, h⟩
  | succ k ih =>
    rw [buildChainFrom_succ]
    split
    · exact ⟨rank, h⟩
    · next f hf =>
      obtain ⟨hff, hfp⟩ := Mmu.firstFree_spec hf
      exact ih (h.buildNode hff hfp hb t) (hb.buildNode h hff hfp t)

/-- Every command keeps the chain invariants. -/
theorem Mmu.linked_commandInvariant : Mmu.CommandInvariant fun m => ∃ rank, m.Linked rank where
  registers := fun ⟨_, h⟩ hp _ _ _ => ⟨_, h.of_pool_eq hp⟩
  construct := ⟨_, Mmu.linked_construct⟩
  freeChain := fun ⟨_, h⟩ ha hr => ⟨_, h.freeChain ha hr⟩
  unlink := fun ⟨_, h⟩ ha => ⟨_, h.unlink ha⟩
  spliceBefore := fun ⟨_, h⟩ hf hfp ha => ⟨_, h.spliceBefore hf hfp ha⟩
  spliceAfter := fun ⟨_, h⟩ hf hfp ha => ⟨_, h.spliceAfter hf hfp ha⟩
  buildChain := fun count t ⟨_, h⟩ => Mmu.linked_buildChainFrom h t count (.inl ⟨rfl, rfl⟩)
  setStatus := fun ⟨_, h⟩ ha _ hv _ => ⟨_, h.setStatus ha hv⟩

end

/-- Settles O53, by the rank characterization of the chain invariants and one lemma for each change of the links. -/
theorem commandsKeepChains : Obligations.CommandsKeepChains := by
  intro cfg m v h
  exact Mmu.chainsOk_iff.mpr (Mmu.linked_commandInvariant.dispatch (Mmu.chainsOk_iff.mp h) cfg v)

end Sys2Proof.Machine

/-! PROOFS. The block counters and the FRAGD bits (10_state.md R49 (g), (h)): the counters as sums over the pool, what
insertion, removal and freeing add to them, and that every command keeps them exact. -/

namespace Sys2Proof.Machine

/-! ### Sums over the pool -/

/-- The sum of a word over all indices of the pool, modulo 2^16 as the counters are (log 20). -/
def poolSum (F : Word → Word) : Word := ∑ k ∈ Finset.range nodes, F (BitVec.ofNat 16 k)

theorem toNat_ofNat_of_lt {k : Nat} (hk : k < nodes) : (BitVec.ofNat 16 k).toNat = k := by
  rw [BitVec.toNat_ofNat]
  exact Nat.mod_eq_of_lt (hk.trans (by decide))

theorem poolSum_update (F : Word → Word) (i v : Word) :
    poolSum (Function.update F i v) = if i.toNat < nodes then poolSum F - F i + v else poolSum F := by
  have hi : BitVec.ofNat 16 i.toNat = i := by simp
  have hne : ∀ k ∈ Finset.range nodes, k ≠ i.toNat → Function.update F i v (BitVec.ofNat 16 k) = F (BitVec.ofNat 16 k) := by
    intro k hk hki
    refine Function.update_of_ne ?_ _ _
    rintro rfl
    exact hki (toNat_ofNat_of_lt (Finset.mem_range.mp hk)).symm
  unfold poolSum
  split
  · next hlt =>
    have hmem := Finset.mem_range.mpr hlt
    rw [← Finset.add_sum_erase _ _ hmem, ← Finset.add_sum_erase (Finset.range nodes) (fun k => F (BitVec.ofNat 16 k)) hmem,
      Finset.sum_congr rfl fun k hk => hne k (Finset.mem_of_mem_erase hk) (Finset.ne_of_mem_erase hk), hi,
      Function.update_self]
    ring
  · next hlt =>
    exact Finset.sum_congr rfl fun k hk => hne k hk fun e => hlt (e ▸ Finset.mem_range.mp hk)

/-- What a change of a function at a pool index and at a second place, which may be no index, adds to its sum. -/
theorem poolSum_change {F G : Word → Word} {x p : Word} (hx : x.toNat < nodes)
    (hp : p ≠ noNode → p.toNat < nodes ∧ p ≠ x) (h : ∀ i, i ≠ x → i ≠ p → G i = F i) :
    poolSum G = poolSum F - F x + G x + if p = noNode then 0 else G p - F p := by
  have hG : G = Function.update (Function.update F x (G x)) p (G p) := by
    funext i
    by_cases hip : i = p
    · rw [hip, Function.update_self]
    rw [Function.update_of_ne hip]
    by_cases hix : i = x
    · rw [hix, Function.update_self]
    · rw [Function.update_of_ne hix, h i hix hip]
  rw [hG, poolSum_update, poolSum_update, if_pos hx, ← hG]
  by_cases hpn : p = noNode
  · rw [if_neg (hpn ▸ noNode_not_inPool), if_pos hpn, add_zero]
  · obtain ⟨hpp, hpx⟩ := hp hpn
    rw [if_pos hpp, if_neg hpn, Function.update_of_ne hpx]
    ring

/-- Clearing a function on a list of different pool indices takes the list's sum away. -/
theorem poolSum_clear (F : Word → Word) {l : List Word} (hd : l.Nodup) (hp : ∀ i ∈ l, i.toNat < nodes) :
    poolSum (fun i => if i ∈ l then 0 else F i) = poolSum F - (l.map F).sum := by
  induction l with
  | nil => simp
  | cons x xs ih =>
    obtain ⟨hx, hxs⟩ := List.nodup_cons.mp hd
    have hupd : (fun i => if i ∈ x :: xs then 0 else F i) = Function.update (fun i => if i ∈ xs then 0 else F i) x 0 := by
      funext i
      by_cases hi : i = x <;> simp [hi, Function.update]
    rw [hupd, poolSum_update, if_pos (hp x (by simp)), ih hxs fun i hi => hp i (List.mem_cons_of_mem _ hi), if_neg hx]
    simp only [List.map_cons, List.sum_cons]
    ring

/-- A count over a canonical sparse list is a count over the keys. -/
theorem sparse_count {α : Type} [DecidableEq α] {d : α} {bound : Nat} {l : List (Nat × α)} (P : Nat → α → Bool)
    (hwf : sparseWf d bound l = true) (hd : ∀ k, P k d = false) :
    (l.filter fun e => P e.1 e.2).length =
      ((Finset.range bound).filter fun k => P k (sparseGet d l k) = true).card := by
  induction l with
  | nil => simp [sparseGet, hd]
  | cons e l ih =>
    obtain ⟨j, w⟩ := e
    obtain ⟨hj, -, hlt, htl⟩ := (sparseWf_cons d bound j w l).mp hwf
    have hget : sparseGet d l j = d := (sparseGet_mem d l j).resolve_right fun h => lt_irrefl j (hlt _ h)
    have hset : ((Finset.range bound).filter fun k => P k (sparseGet d ((j, w) :: l) k) = true) =
        if P j w then insert j ((Finset.range bound).filter fun k => P k (sparseGet d l k) = true)
        else (Finset.range bound).filter fun k => P k (sparseGet d l k) = true := by
      ext k
      have hcons : sparseGet d ((j, w) :: l) k = if j = k then w else sparseGet d l k := rfl
      by_cases hP : P j w = true
      · rw [if_pos hP, Finset.mem_insert, Finset.mem_filter, Finset.mem_filter, hcons]
        by_cases hk : j = k
        · simp [← hk, hj, hP]
        · simp [hk, Ne.symm hk]
      · rw [if_neg hP, Finset.mem_filter, Finset.mem_filter, hcons]
        by_cases hk : j = k
        · simp [← hk, hP, hget, hd]
        · simp [hk]
    have hnot : j ∉ (Finset.range bound).filter fun k => P k (sparseGet d l k) = true := by
      rw [Finset.mem_filter, hget, hd]
      simp
    rw [hset]
    by_cases hP : P j w = true
    · simp [hP, Finset.card_insert_of_notMem hnot, ih htl]
    · simp [hP, ih htl]

/-- The same count as a sum of ones over the pool. -/
theorem Mmu.count_eq_poolSum {m : Mmu} (hp : Pool.wf m.pool = true) (P : Word → Node → Bool)
    (hd : ∀ i, P i Node.free = false) :
    BitVec.ofNat 16 ((m.pool.filter fun e => P (BitVec.ofNat 16 e.1) e.2).length) =
      poolSum fun i => if P i (m.node i) then 1 else 0 := by
  rw [sparse_count (fun k n => P (BitVec.ofNat 16 k) n) ((Pool.wf_iff _).mp hp).1 fun _ => hd _, Finset.card_filter]
  unfold poolSum
  rw [← BitVec.natCast_eq_ofNat, Nat.cast_sum]
  refine Finset.sum_congr rfl fun k hk => ?_
  have hnode : m.node (BitVec.ofNat 16 k) = sparseGet Node.free m.pool k := by
    rw [Mmu.node, toNat_ofNat_of_lt (Finset.mem_range.mp hk)]
  simp only [hnode, Nat.cast_ite, Nat.cast_one, Nat.cast_zero]

theorem Mmu.allocatedCount_le {m : Mmu} (hp : Pool.wf m.pool = true) : m.allocatedCount ≤ nodes := by
  rw [Mmu.allocatedCount, sparse_count (fun _ n => n.allocated) ((Pool.wf_iff _).mp hp).1 fun _ => Node.free_fields.1]
  exact (Finset.card_filter_le _ _).trans_eq (Finset.card_range _)

/-! ### The counters as sums -/

/-- One for an allocated node. -/
def Node.allocatedOne (n : Node) : Word := if n.allocated then 1 else 0

/-- One for a link that joins indices that do not follow each other (R465). -/
def Node.nextDisc (n : Node) (i : Word) : Word := if n.next = noNode then 0 else disc i n.next

/-- The allocated nodes, counted modulo 2^16. -/
def Mmu.allocatedSum (m : Mmu) : Word := poolSum fun i => (m.node i).allocatedOne

/-- The discontinuous links, counted modulo 2^16. -/
def Mmu.fraggedSum (m : Mmu) : Word := poolSum fun i => (m.node i).nextDisc i

/-- FRAGD of a node says whether one of its links is discontinuous (10_state.md R49 (h)). -/
def Mmu.MarkedAt (m : Mmu) (i : Word) : Prop := (m.node i).status.getLsbD 3 = linkDiscontinuous (m.node i) i

/-- The counters are the sums, and FRAGD marks the allocated nodes it should. -/
structure Mmu.Tally (m : Mmu) : Prop where
  allocated : m.blocksAllocated = m.allocatedSum
  fragged : m.blocksFragged = m.fraggedSum
  marked : ∀ i, (m.node i).allocated = true → m.MarkedAt i

theorem Mmu.allocatedSum_eq {m : Mmu} (hp : Pool.wf m.pool = true) :
    BitVec.ofNat 16 m.allocatedCount = m.allocatedSum :=
  Mmu.count_eq_poolSum hp (fun _ n => n.allocated) fun _ => Node.free_fields.1

theorem Mmu.fraggedSum_eq {m : Mmu} (hp : Pool.wf m.pool = true) (hf : m.freeNodesClear) :
    BitVec.ofNat 16 m.discontinuityCount = m.fraggedSum := by
  refine (Mmu.count_eq_poolSum hp (fun i n => n.allocated && n.next != noNode && discontinuous i n.next) fun i => ?_).trans ?_
  · rw [Node.free_fields.1]; rfl
  · refine congrArg poolSum (funext fun i => ?_)
    cases ha : (m.node i).allocated with
    | false => simp [hf i ha, Node.nextDisc, Node.free]
    | true => by_cases hn : (m.node i).next = noNode <;> simp [Node.nextDisc, disc, hn]

/-- On a canonical pool whose free nodes are clear, the counters count exactly when they are the sums and add up to
`NODES`. -/
theorem Mmu.countsOk_iff {m : Mmu} (hp : Pool.wf m.pool = true) (hf : m.freeNodesClear) :
    m.CountsOk ↔ m.blocksFree + m.blocksAllocated = BitVec.ofNat 16 nodes ∧ m.Tally := by
  have hsum : BitVec.ofNat 16 (nodes - m.allocatedCount) + BitVec.ofNat 16 m.allocatedCount = BitVec.ofNat 16 nodes := by
    rw [← BitVec.ofNat_add, Nat.sub_add_cancel (Mmu.allocatedCount_le hp)]
  constructor
  · rintro ⟨h1, h2, h3, h4⟩
    exact ⟨by rw [h1, h2, hsum], h2.trans (Mmu.allocatedSum_eq hp), h3.trans (Mmu.fraggedSum_eq hp hf), h4⟩
  · rintro ⟨h1, h2, h3, h4⟩
    rw [← Mmu.allocatedSum_eq hp] at h2
    refine ⟨?_, h2, h3.trans (Mmu.fraggedSum_eq hp hf).symm, h4⟩
    rw [h2, ← hsum] at h1
    exact add_right_cancel h1

/-! ### What insertion and removal add -/

section
variable {m m' : Mmu} {rank : Word → Nat} {c f p n : Word}

theorem Mmu.Inserts.allocatedSum (hi : m.Inserts m' f p n) (hf : (m.node f).allocated = false) (hfp : f.toNat < nodes) :
    m'.allocatedSum = m.allocatedSum + 1 := by
  have hupd : (fun i => (m'.node i).allocatedOne) = Function.update (fun i => (m.node i).allocatedOne) f 1 := by
    funext i
    by_cases hif : i = f
    · simp [hif, Node.allocatedOne, hi.allocated_new]
    rw [Function.update_of_ne hif]
    cases ha : (m.node i).allocated with
    | true => simp [Node.allocatedOne, ha, hi.allocated_old i ha]
    | false => rw [hi.free_old i hif ha]
  rw [Mmu.allocatedSum, hupd, poolSum_update, if_pos hfp]
  simp [Mmu.allocatedSum, Node.allocatedOne, hf]

theorem Mmu.Removes.allocatedSum (hr : m.Removes m' c p n) (hc : (m.node c).allocated = true) (hcp : c.toNat < nodes) :
    m'.allocatedSum = m.allocatedSum - 1 := by
  have hupd : (fun i => (m'.node i).allocatedOne) = Function.update (fun i => (m.node i).allocatedOne) c 0 := by
    funext i
    by_cases hic : i = c
    · simp [hic, Node.allocatedOne, hr.released, Node.free_fields.1]
    rw [Function.update_of_ne hic]
    cases ha : (m.node i).allocated with
    | true => simp [Node.allocatedOne, ha, hr.allocated_old i hic ha]
    | false => rw [hr.free_old i ha]
  rw [Mmu.allocatedSum, hupd, poolSum_update, if_pos hcp]
  simp [Mmu.allocatedSum, Node.allocatedOne, hc]

/-- The discontinuity of a link that may be absent. -/
def linkDisc (a b : Word) : Word := if a = noNode ∨ b = noNode then 0 else disc a b

theorem Node.nextDisc_eq {x : Node} {i : Word} (hi : i ≠ noNode) : x.nextDisc i = linkDisc i x.next := by
  simp [Node.nextDisc, linkDisc, hi]

/-- A node that comes in between `p` and `n` replaces one link by two. -/
theorem Mmu.Inserts.fraggedSum (hi : m.Inserts m' f p n) (h : m.Linked rank) (hf : (m.node f).allocated = false)
    (hfp : f.toNat < nodes) (hg : m.Gap p n) :
    m'.fraggedSum = m.fraggedSum + linkDisc p f + linkDisc f n - linkDisc p n := by
  have hfn : f ≠ noNode := by rintro rfl; exact noNode_not_inPool hfp
  have hother : ∀ i, i ≠ f → i ≠ p → (m'.node i).nextDisc i = (m.node i).nextDisc i := by
    intro i hif hip
    cases ha : (m.node i).allocated with
    | true => rw [Node.nextDisc, hi.next_old i ha, if_neg hip, Node.nextDisc]
    | false => rw [hi.free_old i hif ha]
  have hnew : (m'.node f).nextDisc f = linkDisc f n := by rw [Node.nextDisc_eq hfn, hi.next_new]
  have hwas : (m.node f).nextDisc f = 0 := by rw [h.free f hf]; rfl
  have hpf : p ≠ noNode → p.toNat < nodes ∧ p ≠ f := fun hp =>
    ⟨h.inPool p (hg.left hp).1, by rintro rfl; rw [(hg.left hp).1] at hf; cases hf⟩
  rw [Mmu.fraggedSum, poolSum_change hfp hpf hother, hnew, hwas, Mmu.fraggedSum]
  by_cases hp : p = noNode
  · simp [linkDisc, hp]
  · obtain ⟨hpa, hpn⟩ := hg.left hp
    rw [if_neg hp, Node.nextDisc_eq hp, hi.next_old p hpa, if_pos rfl, Node.nextDisc_eq hp, hpn]
    ring

/-- A node taken out from between `p` and `n` leaves one link for two. -/
theorem Mmu.Removes.fraggedSum (hr : m.Removes m' c p n) (h : m.Linked rank) (hc : (m.node c).allocated = true)
    (hp : (m.node c).prev = p) (hn : (m.node c).next = n) :
    m'.fraggedSum = m.fraggedSum - linkDisc p c - linkDisc c n + linkDisc p n := by
  have hcn := h.ne_noNode hc
  have hother : ∀ i, i ≠ c → i ≠ p → (m'.node i).nextDisc i = (m.node i).nextDisc i := by
    intro i hic hip
    cases ha : (m.node i).allocated with
    | true => rw [Node.nextDisc, hr.next_old i hic ha, if_neg hip, Node.nextDisc]
    | false => rw [hr.free_old i ha]
  have hnew : (m'.node c).nextDisc c = 0 := by rw [hr.released]; rfl
  have hwas : (m.node c).nextDisc c = linkDisc c n := by rw [Node.nextDisc_eq hcn, hn]
  have hpc := hp ▸ h.prev_other hc
  rw [Mmu.fraggedSum, poolSum_change (h.inPool c hc)
    (fun hpn => ⟨h.inPool p (hpc.resolve_left hpn).2, (hpc.resolve_left hpn).1⟩) hother, hnew, hwas, Mmu.fraggedSum]
  by_cases hpn : p = noNode
  · simp [linkDisc, hpn]
  · obtain ⟨hne, hpa⟩ := hpc.resolve_left hpn
    have hpx : (m.node p).next = c := hp ▸ (h.prev c hc (hp ▸ hpn)).2
    rw [if_neg hpn, Node.nextDisc_eq hpn, hr.next_old p hne hpa, if_pos rfl, Node.nextDisc_eq hpn, hpx]
    ring

end

end Sys2Proof.Machine

/-! PROOFS. The block counters through every command (10_state.md R49 (g), (h)). -/

namespace Sys2Proof.Machine

/-! ### FRAGD bits -/

section
variable {m m' : Mmu} {rank : Word → Nat} {c f p n : Word}

/-- REFRAG marks its node rightly (R465). -/
theorem Mmu.markedAt_refrag (m : Mmu) {i : Word} (hi : i.toNat < nodes) : (m.refrag i).MarkedAt i := by
  simp only [Mmu.MarkedAt, Mmu.node_refrag, hi, and_self, if_true, withFragd_fragd]
  rfl

/-- REFRAG of any node leaves a right mark right. -/
theorem Mmu.MarkedAt.refrag {i : Word} (h : m.MarkedAt i) (j : Word) : (m.refrag j).MarkedAt i := by
  by_cases hij : i = j ∧ j.toNat < nodes
  · rw [← hij.1]
    exact m.markedAt_refrag (hij.1 ▸ hij.2)
  · simpa only [Mmu.MarkedAt, Mmu.node_refrag, if_neg hij] using h

theorem Mmu.MarkedAt.of_eq {i : Word} (h : m.MarkedAt i) (hs : (m'.node i).status = (m.node i).status)
    (hp : (m'.node i).prev = (m.node i).prev) (hn : (m'.node i).next = (m.node i).next) : m'.MarkedAt i := by
  simpa only [Mmu.MarkedAt, linkDiscontinuous, hs, hp, hn] using h

/-- After an insertion the nodes away from it are marked as they were. -/
theorem Mmu.MarkedAt.insert {i : Word} (h : m.MarkedAt i) (hi : m.Inserts m' f p n) (ha : (m.node i).allocated = true)
    (hs : (m'.node i).status = (m.node i).status) (hip : i ≠ p) (hin : i ≠ n) : m'.MarkedAt i :=
  h.of_eq hs (by rw [hi.prev_old i ha, if_neg hin]) (by rw [hi.next_old i ha, if_neg hip])

/-- All allocated nodes are marked rightly, but perhaps those of a list. -/
def Mmu.MarkedBut (m : Mmu) (xs : List Word) : Prop := ∀ i, (m.node i).allocated = true → i ∉ xs → m.MarkedAt i

/-- REFRAG takes one node off the list. -/
theorem Mmu.MarkedBut.refrag {a : Word} {xs : List Word} (h : m.MarkedBut (a :: xs))
    (hp : ∀ i, (m.node i).allocated = true → i.toNat < nodes) : (m.refrag a).MarkedBut xs := by
  intro i hi hx
  rw [Mmu.refrag_allocated] at hi
  by_cases hia : i = a
  · subst hia
    exact m.markedAt_refrag (hp i hi)
  · exact (h i hi (by simp [hia, hx])).refrag a

/-! ### Registers that the changes of links leave alone -/

@[simp] theorem Mmu.refrag_blocksAllocated (m : Mmu) (i : Word) : (m.refrag i).blocksAllocated = m.blocksAllocated := by
  unfold Mmu.refrag
  split <;> simp [Mmu.setStatus]

@[simp] theorem Mmu.refrag_blocksFragged (m : Mmu) (i : Word) : (m.refrag i).blocksFragged = m.blocksFragged := by
  unfold Mmu.refrag
  split <;> simp [Mmu.setStatus]

@[simp] theorem Mmu.setRoots_blocksAllocated (m : Mmu) (xs : List Word) (r : Word) :
    (m.setRoots xs r).blocksAllocated = m.blocksAllocated := by
  unfold Mmu.setRoots
  induction xs generalizing m with
  | nil => rfl
  | cons x xs ih => rw [List.foldl_cons, ih]; simp [Mmu.setRoot]

@[simp] theorem Mmu.setRoots_blocksFragged (m : Mmu) (xs : List Word) (r : Word) :
    (m.setRoots xs r).blocksFragged = m.blocksFragged := by
  unfold Mmu.setRoots
  induction xs generalizing m with
  | nil => rfl
  | cons x xs ih => rw [List.foldl_cons, ih]; simp [Mmu.setRoot]

theorem Mmu.joinAfter_counters (m : Mmu) (hcn : c ≠ noNode) (hfn : f ≠ noNode) :
    (m.joinAfter f c n).blocksAllocated = m.blocksAllocated + 1 ∧
      (m.joinAfter f c n).blocksFragged = m.blocksFragged + linkDisc c f + linkDisc f n - linkDisc c n := by
  by_cases hn : n = noNode
  · simp [Mmu.joinAfter, Mmu.take, Mmu.addFragged, Mmu.setNext, Mmu.setStatus, linkDisc, hn, hcn, hfn]
  · simp [Mmu.joinAfter, Mmu.take, Mmu.addFragged, Mmu.setPrev, Mmu.setNext, Mmu.setStatus, linkDisc, hn, hcn, hfn]
    ring

theorem Mmu.joinBefore_counters (m : Mmu) (hcn : c ≠ noNode) (hfn : f ≠ noNode) :
    (m.joinBefore f c p).blocksAllocated = m.blocksAllocated + 1 ∧
      (m.joinBefore f c p).blocksFragged = m.blocksFragged + linkDisc p f + linkDisc f c - linkDisc p c := by
  by_cases hp : p = noNode
  · simp [Mmu.joinBefore, Mmu.take, Mmu.addFragged, Mmu.setPrev, Mmu.setStatus, linkDisc, hp, hcn, hfn]
  · simp [Mmu.joinBefore, Mmu.take, Mmu.addFragged, Mmu.setPrev, Mmu.setNext, Mmu.setRoot, Mmu.setStatus, linkDisc, hp, hcn, hfn]
    ring

theorem Mmu.cutOut_counters (m : Mmu) (hcn : c ≠ noNode) :
    ((m.countCut c p n).cutOut c p n).blocksAllocated = m.blocksAllocated - 1 ∧
      ((m.countCut c p n).cutOut c p n).blocksFragged =
        m.blocksFragged - linkDisc p c - linkDisc c n + linkDisc p n := by
  by_cases hp : p = noNode <;> by_cases hn : n = noNode <;>
    simp [Mmu.countCut, Mmu.cutOut, Mmu.linkAround, Mmu.release, Mmu.addFragged, Mmu.setPrev, Mmu.setNext, linkDisc, hp,
      hn, hcn] <;> ring

theorem Mmu.buildNode_counters (m : Mmu) (t : Byte) (rootn last : Word) (hfn : f ≠ noNode) :
    (m.buildNode t rootn last f).blocksAllocated = m.blocksAllocated + 1 ∧
      (m.buildNode t rootn last f).blocksFragged =
        m.blocksFragged + linkDisc last f + linkDisc f noNode - linkDisc last noNode := by
  by_cases hl : last = noNode
  · simp [Mmu.buildNode, Mmu.linkAfter, Mmu.take, Mmu.setStatus, linkDisc, hl]
  · by_cases hd : discontinuous last f = true <;>
      simp [Mmu.buildNode, Mmu.linkAfter, Mmu.take, Mmu.setStatus, Mmu.setNext, Mmu.addFragged, linkDisc, disc, hl, hd, hfn]

/-! ### The tally through insertion and removal -/

theorem Mmu.Tally.of_eq (h : m.Tally) (hp : m'.pool = m.pool) (ha : m'.blocksAllocated = m.blocksAllocated)
    (hf : m'.blocksFragged = m.blocksFragged) : m'.Tally := by
  have hn := Mmu.node_of_pool_eq hp
  refine ⟨?_, ?_, fun i hi => ?_⟩
  · rw [ha, h.allocated, Mmu.allocatedSum, Mmu.allocatedSum, hn]
  · rw [hf, h.fragged, Mmu.fraggedSum, Mmu.fraggedSum, hn]
  · rw [hn] at hi
    have := h.marked i hi
    rwa [Mmu.MarkedAt, ← hn] at this

/-- An insertion that counts its node and its links and then marks the three nodes at hand keeps the tally. -/
theorem Mmu.Tally.insert (ht : m.Tally) (h : m.Linked rank) (hf : (m.node f).allocated = false) (hfp : f.toNat < nodes)
    (hg : m.Gap p n) (hi : m.Inserts m' f p n)
    (hc : m'.blocksAllocated = m.blocksAllocated + 1 ∧
      m'.blocksFragged = m.blocksFragged + linkDisc p f + linkDisc f n - linkDisc p n)
    (hs : ∀ i, i ≠ f → (m'.node i).status = (m.node i).status) :
    (((m'.refrag p).refrag f).refrag n).Tally := by
  have hp : p = noNode ∨ p = f ∨ (m.node p).allocated = true := (em _).imp id fun e => .inr (hg.left e).1
  have hn : n = noNode ∨ n = f ∨ (m.node n).allocated = true := (em _).imp id fun e => .inr (hg.right e).1
  have hi1 := hi.refrag hp
  have hi2 := hi1.refrag (.inr (.inl rfl))
  have hi3 := hi2.refrag hn
  have hbut : m'.MarkedBut [p, f, n] := by
    intro i ha hx
    simp only [List.mem_cons, List.not_mem_nil, or_false, not_or] at hx
    obtain ⟨hip, hif, hin⟩ := hx
    have ha := hi.allocated_inv ha hif
    exact (ht.marked i ha).insert hi ha (hs i hif) hip hin
  have hall := ((hbut.refrag (h.insert hf hfp hg hi).inPool).refrag (h.insert hf hfp hg hi1).inPool).refrag
    (h.insert hf hfp hg hi2).inPool
  refine ⟨?_, ?_, fun i ha => hall i ha (by simp)⟩
  · rw [hi3.allocatedSum hf hfp]
    simp only [Mmu.refrag_blocksAllocated, hc.1, ht.allocated]
  · rw [hi3.fraggedSum h hf hfp hg]
    simp only [Mmu.refrag_blocksFragged, hc.2, ht.fragged]

/-- A removal that counts its node and its links and then marks the two neighbours keeps the tally. -/
theorem Mmu.Tally.remove (ht : m.Tally) (h : m.Linked rank) (hc : (m.node c).allocated = true)
    (hp : (m.node c).prev = p) (hn : (m.node c).next = n) (hr : m.Removes m' c p n)
    (hpc : p = noNode ∨ p ≠ c ∧ (m.node p).allocated = true) (hnc : n = noNode ∨ n ≠ c ∧ (m.node n).allocated = true)
    (ha : m'.blocksAllocated = m.blocksAllocated - 1)
    (hf : m'.blocksFragged = m.blocksFragged - linkDisc p c - linkDisc c n + linkDisc p n)
    (hs : ∀ i, i ≠ c → (m'.node i).status = (m.node i).status) : ((m'.refrag p).refrag n).Tally := by
  have hr1 := hr.refrag hpc
  have hr2 := hr1.refrag hnc
  have hbut : m'.MarkedBut [p, n] := by
    intro i hia hx
    simp only [List.mem_cons, List.not_mem_nil, or_false, not_or] at hx
    obtain ⟨hip, hin⟩ := hx
    obtain ⟨hic, hia⟩ := hr.allocated_inv hia
    exact (ht.marked i hia).of_eq (hs i hic) (by rw [hr.prev_old i hic hia, if_neg hin])
      (by rw [hr.next_old i hic hia, if_neg hip])
  have hall := (hbut.refrag (h.remove hc hp hn hr).inPool).refrag (h.remove hc hp hn hr1).inPool
  refine ⟨?_, ?_, fun i hia => hall i hia (by simp)⟩
  · rw [hr2.allocatedSum hc (h.inPool c hc)]
    simp only [Mmu.refrag_blocksAllocated, ha, ht.allocated]
  · rw [hr2.fraggedSum h hc hp hn]
    simp only [Mmu.refrag_blocksFragged, hf, ht.fragged]

/-! ### The commands' changes -/

/-- INS_AFTER keeps the tally (49_mmu_commands.md R481). -/
theorem Mmu.Tally.spliceAfter (ht : m.Tally) (h : m.Linked rank) (hf : (m.node f).allocated = false)
    (hfp : f.toNat < nodes) (hc : (m.node c).allocated = true) : (m.spliceAfter f c (m.node c).next).Tally := by
  have hcf : c ≠ f := by rintro rfl; rw [hc] at hf; cases hf
  have hfn : f ≠ noNode := by rintro rfl; exact noNode_not_inPool hfp
  have hg : m.Gap c (m.node c).next := ⟨fun _ => ⟨hc, rfl⟩, fun e => ⟨(h.next c hc e).1, (h.next c hc e).2.1⟩⟩
  rw [Mmu.spliceAfter_eq]
  refine (ht.insert h hf hfp hg (m.joinAfter_inserts h hf hfp hc rfl) (m.joinAfter_counters (h.ne_noNode hc) hfn)
    fun i hif => ?_).of_eq rfl rfl rfl
  rw [m.node_joinAfter hcf hfp (h.inPool c hc) fun e => h.inPool _ (h.next c hc e).1]
  simp only [if_neg hif]

theorem Mmu.joinBefore_status (m : Mmu) (hcf : c ≠ f) (hfp : f.toNat < nodes) (hcp : c.toNat < nodes) {i : Word}
    (hif : i ≠ f) : ((m.joinBefore f c p).node i).status = (m.node i).status := by
  by_cases hp : p = noNode
  · rw [hp, Mmu.joinBefore_head, Mmu.node_setRoots, Mmu.node_linkBefore m hcf hfp hcp]
    simp only [if_neg hif]
  · rw [Mmu.joinBefore_inner m f c hp, Mmu.node_setRoot, Mmu.node_setNext, Mmu.node_linkBefore m hcf hfp hcp]
    simp only [if_neg hif]

/-- INS_BEFORE keeps the tally (49_mmu_commands.md R480). -/
theorem Mmu.Tally.spliceBefore (ht : m.Tally) (h : m.Linked rank) (hf : (m.node f).allocated = false)
    (hfp : f.toNat < nodes) (hc : (m.node c).allocated = true) : (m.spliceBefore f c (m.node c).prev).Tally := by
  have hcf : c ≠ f := by rintro rfl; rw [hc] at hf; cases hf
  have hfn : f ≠ noNode := by rintro rfl; exact noNode_not_inPool hfp
  have hg : m.Gap (m.node c).prev c := ⟨fun e => h.prev c hc e, fun _ => ⟨hc, rfl⟩⟩
  rw [Mmu.spliceBefore_eq]
  exact (ht.insert h hf hfp hg (m.joinBefore_inserts h hf hfp hc rfl) (m.joinBefore_counters (h.ne_noNode hc) hfn)
    fun i hif => m.joinBefore_status hcf hfp (h.inPool c hc) hif).of_eq rfl rfl rfl

theorem Mmu.cutOut_status (m : Mmu) (hcp : c.toNat < nodes) (hpp : p ≠ noNode → p.toNat < nodes)
    (hnp : n ≠ noNode → n.toNat < nodes) {i : Word} (hic : i ≠ c) :
    ((m.cutOut c p n).node i).status = (m.node i).status := by
  rw [Mmu.node_cutOut]
  split
  · rw [Mmu.node_setRoots, Mmu.node_linkAround m hcp hpp hnp, if_neg hic]
  · rw [Mmu.node_linkAround m hcp hpp hnp, if_neg hic]

/-- DEL_NODE keeps the tally (49_mmu_commands.md R479). -/
theorem Mmu.Tally.unlink (ht : m.Tally) (h : m.Linked rank) (hc : (m.node c).allocated = true) :
    (m.unlink c (m.node c).prev (m.node c).next).Tally := by
  have hcount := m.cutOut_counters (p := (m.node c).prev) (n := (m.node c).next) (h.ne_noNode hc)
  rw [Mmu.unlink_eq]
  refine (ht.remove h hc rfl rfl (Mmu.countCut_removes h hc rfl rfl) (h.prev_other hc) (h.next_other hc) hcount.1 hcount.2
    fun i hic => ?_).of_eq rfl rfl rfl
  rw [Mmu.cutOut_status _ (h.inPool c hc) (fun e => h.inPool _ (h.prev c hc e).1)
    (fun e => h.inPool _ (h.next c hc e).1) hic, Mmu.node_of_pool_eq (m.countCut_pool c _ _)]

/-- A round of `BuildChain` marks the two nodes it joins (R467). -/
theorem Mmu.Tally.buildNode (ht : m.Tally) (h : m.Linked rank) (hf : (m.node f).allocated = false)
    (hfp : f.toNat < nodes) {rootn last : Word} (hb : m.BuildsAt rootn last) (t : Byte) :
    (m.buildNode t (if rootn = noNode then f else rootn) last f).Tally := by
  have hfn : f ≠ noNode := by rintro rfl; exact noNode_not_inPool hfp
  have hlf := hb.ne_new hf hfp
  have hi := m.buildNode_inserts h hf hfp hb t
  have hcount := m.buildNode_counters t (if rootn = noNode then f else rootn) last hfn
  have hnode := m.node_buildNode t (if rootn = noNode then f else rootn) hlf hfp
    fun e => h.inPool _ (hb.allocated_last e).1
  refine ⟨by rw [hi.allocatedSum hf hfp, hcount.1, ht.allocated],
    by rw [hi.fraggedSum h hf hfp hb.gap, hcount.2, ht.fragged], fun i ha => ?_⟩
  by_cases hif : i = f
  · subst hif
    rw [Mmu.MarkedAt, linkDiscontinuous, hi.prev_new, hi.next_new, hnode]
    by_cases hl : last = noNode
    · simp [hl, templateStatus_fragd, -BitVec.getLsbD_eq_getElem]
    · by_cases hd : discontinuous last i = true <;>
        simp [hl, hd, withFragd_fragd, templateStatus_fragd, -BitVec.getLsbD_eq_getElem]
  have hia := hi.allocated_inv ha hif
  have hmark := ht.marked i hia
  have hin := h.ne_noNode hia
  by_cases hil : i = last
  · subst hil
    rw [Mmu.MarkedAt, linkDiscontinuous, (hb.allocated_last hin).2.1] at hmark
    rw [Mmu.MarkedAt, linkDiscontinuous, hi.prev_old i hia, if_neg hin, hi.next_old i hia, if_pos rfl, hnode]
    by_cases hd : discontinuous i f = true
    · simp [hd, hin, hfn, withFragd_fragd, -BitVec.getLsbD_eq_getElem]
    · simpa [hd, hif, -BitVec.getLsbD_eq_getElem] using hmark
  · refine hmark.insert hi hia ?_ hil hin
    rw [hnode]
    simp [hif, hil]

theorem Mmu.tally_buildChainFrom (ht : m.Tally) (h : m.Linked rank) (t : Byte) (k : Nat) {rootn last : Word}
    (hb : m.BuildsAt rootn last) : (buildChainFrom t k rootn last m).2.Tally := by
  induction k generalizing m rank rootn last with
  | zero => exact ht
  | succ k ih =>
    rw [buildChainFrom_succ]
    split
    · exact ht
    · next f hf =>
      obtain ⟨hff, hfp⟩ := Mmu.firstFree_spec hf
      exact ih (ht.buildNode h hff hfp hb t) (h.buildNode hff hfp hb t) (hb.buildNode h hff hfp t)

/-! ### Freeing a chain -/

theorem Mmu.releaseAll_counters (m : Mmu) (xs : List Word) :
    (xs.foldl Mmu.release m).blocksAllocated = m.blocksAllocated - (xs.map fun _ => (1 : Word)).sum ∧
      (xs.foldl Mmu.release m).blocksFragged = m.blocksFragged := by
  induction xs generalizing m with
  | nil => simp
  | cons x xs ih =>
    rw [List.foldl_cons, (ih _).1, (ih _).2]
    simp only [Mmu.release, Mmu.setNode_blocksAllocated, Mmu.setNode_blocksFragged, List.map_cons, List.sum_cons, and_true]
    ring

theorem Mmu.freeChain_counters (m : Mmu) (r : Word) :
    (m.freeChain r).blocksAllocated = m.blocksAllocated - ((m.chainOf r).map fun _ => (1 : Word)).sum ∧
      (m.freeChain r).blocksFragged = m.blocksFragged - chainDisc (m.chainOf r) := by
  rw [Mmu.freeChain]
  obtain ⟨ha, hf⟩ := Mmu.releaseAll_counters (m.addFragged (0 - chainDisc (m.chainOf r))) (m.chainOf r)
  refine ⟨ha, hf.trans ?_⟩
  rw [Mmu.addFragged]
  ring

/-- `FreeChain` counts the discontinuous links of the whole chain (R468). -/
theorem Mmu.Chain.chainDisc_eq {i : Word} {l : List Word} (h : m.Chain i l) :
    chainDisc l = (l.map fun j => (m.node j).nextDisc j).sum := by
  induction h with
  | nil => rfl
  | @cons i l hi hl ih =>
    rw [List.map_cons, List.sum_cons, ← ih]
    generalize hn : (m.node i).next = n at hl
    cases hl with
    | nil => simp [chainDisc, Node.nextDisc, hn]
    | cons hne => simp [chainDisc, Node.nextDisc, hn, hne]

/-- FREE keeps the tally (49_mmu_commands.md R468). -/
theorem Mmu.Tally.freeChain (ht : m.Tally) (h : m.Linked rank) {r : Word} (ha : (m.node r).allocated = true)
    (hr : (m.node r).root = r) : (m.freeChain r).Tally := by
  obtain ⟨hchain, hd, hmem⟩ := h.chainOf ha hr
  have hpool : ∀ i ∈ m.chainOf r, i.toNat < nodes := fun i hi => h.inPool i ((hmem i).mp hi).1
  have hnode : ∀ i, (m.freeChain r).node i = if i ∈ m.chainOf r then Node.free else m.node i := fun i => by
    rw [Mmu.node_freeChain]
    by_cases hi : i ∈ m.chainOf r <;> simp [hi, hpool i]
  obtain ⟨hallocated, hfragged⟩ := m.freeChain_counters r
  refine ⟨?_, ?_, fun i hi => ?_⟩
  · have hF : (fun i => ((m.freeChain r).node i).allocatedOne) =
        fun i => if i ∈ m.chainOf r then 0 else (m.node i).allocatedOne := by
      funext i
      rw [hnode]
      split <;> rfl
    have hone : (m.chainOf r).map (fun i => (m.node i).allocatedOne) = (m.chainOf r).map fun _ => 1 :=
      List.map_congr_left fun i hi => if_pos ((hmem i).mp hi).1
    rw [hallocated, Mmu.allocatedSum, hF, poolSum_clear _ hd hpool, hone, ht.allocated, Mmu.allocatedSum]
  · have hF : (fun i => ((m.freeChain r).node i).nextDisc i) =
        fun i => if i ∈ m.chainOf r then 0 else (m.node i).nextDisc i := by
      funext i
      rw [hnode]
      split <;> rfl
    rw [hfragged, Mmu.fraggedSum, hF, poolSum_clear _ hd hpool, ← hchain.chainDisc_eq, ht.fragged, Mmu.fraggedSum]
  · rw [hnode] at hi
    split at hi
    · exact absurd hi (by decide)
    · next hx =>
      have := ht.marked i hi
      rwa [Mmu.MarkedAt, hnode, if_neg hx]

theorem Mmu.tally_construct : Mmu.construct.Tally := by
  have hfree : ∀ i, Mmu.construct.node i = Node.free := fun _ => rfl
  refine ⟨?_, ?_, fun i hi => absurd hi (by rw [hfree]; decide)⟩
  · simp only [Mmu.allocatedSum, poolSum, hfree, Node.allocatedOne, Node.free_fields]
    exact (Finset.sum_const_zero).symm
  · simp only [Mmu.fraggedSum, poolSum, hfree, Node.nextDisc, Node.free_fields, if_true]
    exact (Finset.sum_const_zero).symm

/-- A change of status bits other than ALLOCATED and FRAGD keeps the tally. -/
theorem Mmu.Tally.setStatus (ht : m.Tally) {v : Byte} (hc : (m.node c).allocated = true) (hv : v.getLsbD 0 = true)
    (hv3 : v.getLsbD 3 = (m.node c).status.getLsbD 3) : (m.setStatus c v).Tally := by
  have hnode := m.node_setStatus c (v := v)
  have ha : ∀ i, ((m.setStatus c v).node i).allocated = (m.node i).allocated := by
    intro i
    rw [hnode, Node.allocated]
    split
    · next hi => rw [hv, hi.1, hc]
    · rfl
  refine ⟨?_, ?_, fun i hi => ?_⟩
  · simp only [Mmu.allocatedSum, Node.allocatedOne, ha]
    simpa only [Mmu.setStatus, Mmu.setNode_blocksAllocated, Mmu.allocatedSum, Node.allocatedOne] using ht.allocated
  · simp only [Mmu.fraggedSum, Node.nextDisc, hnode]
    simpa only [Mmu.setStatus, Mmu.setNode_blocksFragged, Mmu.fraggedSum, Node.nextDisc] using ht.fragged
  · rw [ha] at hi
    have hmark := ht.marked i hi
    simp only [Mmu.MarkedAt, linkDiscontinuous, hnode] at hmark ⊢
    split
    · next hic => rw [hv3, ← hic.1, hmark]
    · exact hmark

end

/-- Every command keeps the chain invariants and the tally together. -/
theorem Mmu.tally_commandInvariant : Mmu.CommandInvariant fun m => (∃ rank, m.Linked rank) ∧ m.Tally where
  registers := fun ⟨⟨_, h⟩, ht⟩ hp _ ha hf => ⟨⟨_, h.of_pool_eq hp⟩, ht.of_eq hp ha hf⟩
  construct := ⟨⟨_, Mmu.linked_construct⟩, Mmu.tally_construct⟩
  freeChain := fun ⟨⟨_, h⟩, ht⟩ ha hr => ⟨⟨_, h.freeChain ha hr⟩, ht.freeChain h ha hr⟩
  unlink := fun ⟨⟨_, h⟩, ht⟩ ha => ⟨⟨_, h.unlink ha⟩, ht.unlink h ha⟩
  spliceBefore := fun ⟨⟨_, h⟩, ht⟩ hf hfp ha => ⟨⟨_, h.spliceBefore hf hfp ha⟩, ht.spliceBefore h hf hfp ha⟩
  spliceAfter := fun ⟨⟨_, h⟩, ht⟩ hf hfp ha => ⟨⟨_, h.spliceAfter hf hfp ha⟩, ht.spliceAfter h hf hfp ha⟩
  buildChain := fun count t ⟨⟨_, h⟩, ht⟩ =>
    ⟨Mmu.linked_buildChainFrom h t count (.inl ⟨rfl, rfl⟩), Mmu.tally_buildChainFrom ht h t count (.inl ⟨rfl, rfl⟩)⟩
  setStatus := fun ⟨⟨_, h⟩, ht⟩ ha _ hv hv3 => ⟨⟨_, h.setStatus ha hv⟩, ht.setStatus ha hv hv3⟩

/-- Settles O54: the counters are sums over the pool, and every change of the links moves them by what it counts. -/
theorem commandsKeepCounts : Obligations.CommandsKeepCounts := by
  intro cfg m v hp hchains hcounts
  obtain ⟨hsum, htally⟩ := (Mmu.countsOk_iff hp hchains.1).mp hcounts
  have hkept : (m.dispatch cfg v).Kept := Mmu.Kept.dispatch ⟨hp, hsum⟩ v
  obtain ⟨⟨_, hlinked⟩, htally'⟩ := Mmu.tally_commandInvariant.dispatch ⟨⟨_, hchains.linked⟩, htally⟩ cfg v
  exact (Mmu.countsOk_iff hkept.pool hlinked.free).mpr ⟨hkept.count, htally'⟩

end Sys2Proof.Machine

/-! PROOFS. The state after reset, and signed overflow. -/

namespace Sys2Proof.Machine

/-! ### The state after reset -/

/-- The spec's reset vector reads as 0 while nothing is loaded (log 3). -/
theorem reset_read16_vector : (read16 State.reset 0xFFFE).1 = 0 := by decide

/-- Settles O10: the fields are the table's, the pool holds no node, and the vector reads 0. -/
theorem resetState : Obligations.ResetState := by
  have hnode : ∀ i, State.reset.mmu.node i = Node.free := fun _ => rfl
  refine ⟨reset_read16_vector.symm, rfl, rfl, rfl, rfl, rfl, rfl, rfl, rfl, fun i => ?_, rfl, rfl, rfl, rfl, rfl, rfl, rfl,
    rfl, rfl, rfl⟩
  rw [hnode]
  exact ⟨rfl, fun _ => rfl, rfl, rfl, rfl⟩

theorem reset_sound : State.reset.sound = true := by decide

/-- Settles O11: the reference configuration is well-formed, and an empty pool meets the chain invariants and its counts. -/
theorem resetSound : Obligations.ResetSound :=
  ⟨reset_sound, Mmu.linked_construct.chainsOk,
    (Mmu.countsOk_iff (by decide) Mmu.linked_construct.free).mpr ⟨by decide, Mmu.tally_construct⟩⟩

/-! ### Signed overflow (10_state.md R34) -/

/-- The sign of a word, by its value. -/
theorem msb_eq_decide_toNat {w : Nat} (x : BitVec (w + 1)) : x.msb = decide (2 ^ w ≤ x.toNat) := by
  rw [BitVec.msb_eq_decide, Nat.add_sub_cancel]

theorem toInt_byte (x : Byte) : x.toInt = if 128 ≤ x.toNat then (x.toNat : Int) - 256 else x.toNat := by
  rw [BitVec.toInt_eq_toNat_cond]
  split <;> split <;> omega

theorem toInt_word (x : Word) : x.toInt = if 32768 ≤ x.toNat then (x.toNat : Int) - 65536 else x.toNat := by
  rw [BitVec.toInt_eq_toNat_cond]
  split <;> split <;> omega

theorem add8_toNat (a m : Byte) (c : Bool) : (add8 a m c).toNat = (a.toNat + m.toNat + c.toNat) % 256 := by
  simp [add8]

theorem sub8_toNat (a m : Byte) (c : Bool) : (sub8 a m c).toNat = (512 + a.toNat - m.toNat - c.toNat) % 256 := by
  have := a.isLt
  have := m.isLt
  cases c <;> simp [sub8, BitVec.toNat_sub] <;> omega

/-- The carry of an `Add8` is a number below 2, the sum overflows exactly where two equal signs give another. -/
theorem CC.add8_v (cc : CC) (a m : Byte) (c : Bool) : (cc.add8 a m c).v = true ↔
    a.toInt + m.toInt + c.toNat < -128 ∨ 127 < a.toInt + m.toInt + c.toNat := by
  have ha := a.isLt
  have hm := m.isLt
  have hc := Bool.toNat_le c
  simp only [CC.add8, Bool.and_eq_true, beq_iff_eq, bne_iff_ne, ne_eq, msb_eq_decide_toNat, add8_toNat, toInt_byte,
    decide_eq_decide]
  omega

theorem CC.sub8_v (cc : CC) (h : Bool) (a m : Byte) (c : Bool) : (cc.sub8 h a m c).v = true ↔
    a.toInt - m.toInt - c.toNat < -128 ∨ 127 < a.toInt - m.toInt - c.toNat := by
  have ha := a.isLt
  have hm := m.isLt
  have hc := Bool.toNat_le c
  simp only [CC.sub8, Bool.and_eq_true, bne_iff_ne, ne_eq, msb_eq_decide_toNat, sub8_toNat, toInt_byte, decide_eq_decide]
  omega

theorem CC.add16_v (cc : CC) (a m : Word) : (cc.add16 a m).v = true ↔
    a.toInt + m.toInt < -32768 ∨ 32767 < a.toInt + m.toInt := by
  have ha := a.isLt
  have hm := m.isLt
  simp only [CC.add16, Bool.and_eq_true, beq_iff_eq, bne_iff_ne, ne_eq, msb_eq_decide_toNat, BitVec.toNat_add, toInt_word,
    decide_eq_decide]
  omega

theorem CC.sub16_v (cc : CC) (a m : Word) : (cc.sub16 a m).v = true ↔
    a.toInt - m.toInt < -32768 ∨ 32767 < a.toInt - m.toInt := by
  have ha := a.isLt
  have hm := m.isLt
  simp only [CC.sub16, Bool.and_eq_true, bne_iff_ne, ne_eq, msb_eq_decide_toNat, BitVec.toNat_sub, toInt_word,
    decide_eq_decide]
  omega

/-- Settles O24: signs and values are linear in the operands' numbers, width by width. -/
theorem signedOverflow : Obligations.SignedOverflow := ⟨CC.add8_v, CC.sub8_v, CC.add16_v, CC.sub16_v⟩

end Sys2Proof.Machine

/-! PROOFS. The operations that the arms of `exec` share, as one type: what is proved for an operation holds of every
instruction that is made of it. -/

namespace Sys2Proof.Machine

/-- The one-operand operation of a name. -/
def UnaryOp.unary : UnaryOp → Unary
  | .neg => .neg
  | .inc => .inc
  | .dec => .dec
  | .com => .com
  | .lsr => .lsr
  | .asr => .asr
  | .asl => .asl
  | .rol => .rol
  | .ror => .ror

/-- A shared operation with its parameters. -/
inductive Op
  | addAcc (r : Acc) (carry : Bool) (m : Src8)
  | subAcc (r : Acc) (carry : Bool) (m : Src8)
  | cmpAcc (r : Acc) (m : Src8)
  | logicAcc (f : Byte → Byte → Byte) (r : Acc) (m : Src8)
  | bitTest (r : Acc) (m : Src8)
  | load8 (r : Acc) (m : Src8)
  | addD (m : Src16)
  | subD (m : Src16)
  | cmp16 (r : Reg16) (m : Src16)
  | load16 (r : Reg16) (m : Src16)
  | unaryAcc (op : UnaryOp) (r : Acc)
  | testAcc (r : Acc)
  | clearAcc (r : Acc)
  | unaryMem (op : UnaryOp) (e : MemForm)
  | testMem (e : MemForm)
  | clearMem (e : MemForm)
  | store8 (r : Acc) (e : MemForm)
  | store16 (r : Reg16) (e : MemForm)
  | leaZ (r : Reg16) (m : Indexed)
  | lea (r : Reg16) (m : Indexed)
  | mulAB
  | decimalAdjust
  | signExtend
  | addBX
  | andCC (v : Byte)
  | orCC (v : Byte)
  | transfer (src dst : BitVec 4)
  | exchange (src dst : BitVec 4)
  | branch8 (k : Cond) (off : Byte)
  | branch16 (k : Cond) (off : Word)
  | jump16 (off : Word)
  | jumpEa (e : MemForm)
  | call8 (off : Byte)
  | call16 (off : Word)
  | callEa (e : MemForm)
  | pullPc
  | skip
  | pushMask (k : Stack) (mask : Byte)
  | pullMask (k : Stack) (mask : Byte)
  | softInt (v : Vector) (masks : Bool)
  | returnFromInterrupt
  | waitCwai (v : Byte)
  | waitSync

/-- What the operation makes of a state. -/
def Op.run (o : Op) (s : State) : State :=
  match o with
  | .addAcc r c m => Machine.addAcc r c m s
  | .subAcc r c m => Machine.subAcc r c m s
  | .cmpAcc r m => Machine.cmpAcc r m s
  | .logicAcc f r m => Machine.logicAcc f r m s
  | .bitTest r m => Machine.bitTest r m s
  | .load8 r m => Machine.load8 r m s
  | .addD m => Machine.addD m s
  | .subD m => Machine.subD m s
  | .cmp16 r m => Machine.cmp16 r m s
  | .load16 r m => Machine.load16 r m s
  | .unaryAcc op r => Machine.unaryAcc op.unary r s
  | .testAcc r => Machine.testAcc r s
  | .clearAcc r => Machine.clearAcc r s
  | .unaryMem op e => Machine.unaryMem op.unary e s
  | .testMem e => Machine.testMem e s
  | .clearMem e => Machine.clearMem e s
  | .store8 r e => Machine.store8 r e s
  | .store16 r e => Machine.store16 r e s
  | .leaZ r m => Machine.leaZ r m s
  | .lea r m => Machine.lea r m s
  | .mulAB => Machine.mulAB s
  | .decimalAdjust => Machine.decimalAdjust s
  | .signExtend => Machine.signExtend s
  | .addBX => Machine.addBX s
  | .andCC v => s.andCC v
  | .orCC v => s.orCC v
  | .transfer src dst => Machine.transfer src dst s
  | .exchange src dst => Machine.exchange src dst s
  | .branch8 k off => Machine.branch8 k off s
  | .branch16 k off => Machine.branch16 k off s
  | .jump16 off => s.jump (relTarget16 s off)
  | .jumpEa e => (MemForm.ea e s).2.jump (MemForm.ea e s).1
  | .call8 off => call (relTarget8 s off) s
  | .call16 off => call (relTarget16 s off) s
  | .callEa e => call (MemForm.ea e s).1 (MemForm.ea e s).2
  | .pullPc => pullItem .s .pc s
  | .skip => s
  | .pushMask k mask => Machine.pushMask k mask s
  | .pullMask k mask => Machine.pullMask k mask s
  | .softInt v masks => jumpVector v (if masks then (pushEntire s).maskInterrupts else pushEntire s)
  | .returnFromInterrupt => Machine.returnFromInterrupt s
  | .waitCwai v => { pushEntire (s.andCC v) with wait := .cwai }
  | .waitSync => { s with wait := .sync }

/-- The operation that an instruction is. -/
def opOf : Instr → Op
  | .neg e => .unaryMem .neg e
  | .com e => .unaryMem .com e
  | .lsr e => .unaryMem .lsr e
  | .ror e => .unaryMem .ror e
  | .asr e => .unaryMem .asr e
  | .asl e => .unaryMem .asl e
  | .rol e => .unaryMem .rol e
  | .dec e => .unaryMem .dec e
  | .inc e => .unaryMem .inc e
  | .tst e => .testMem e
  | .jmp e => .jumpEa e
  | .clr e => .clearMem e
  | .nop => .skip
  | .sync => .waitSync
  | .lbra off => .jump16 off
  | .lbsr off => .call16 off
  | .daa => .decimalAdjust
  | .orcc v => .orCC v
  | .andcc v => .andCC v
  | .sex => .signExtend
  | .exg src dst => .exchange src dst
  | .tfr src dst => .transfer src dst
  | .bra off => .branch8 .always off
  | .brn off => .branch8 .never off
  | .bhi off => .branch8 .hi off
  | .bls off => .branch8 .ls off
  | .bcc off => .branch8 .cc off
  | .bcs off => .branch8 .cs off
  | .bne off => .branch8 .ne off
  | .beq off => .branch8 .eq off
  | .bvc off => .branch8 .vc off
  | .bvs off => .branch8 .vs off
  | .bpl off => .branch8 .pl off
  | .bmi off => .branch8 .mi off
  | .bge off => .branch8 .ge off
  | .blt off => .branch8 .lt off
  | .bgt off => .branch8 .gt off
  | .ble off => .branch8 .le off
  | .leax m => .leaZ .x m
  | .leay m => .leaZ .y m
  | .leas m => .lea .s m
  | .leau m => .lea .u m
  | .pshs mask => .pushMask .s mask
  | .puls mask => .pullMask .s mask
  | .pshu mask => .pushMask .u mask
  | .pulu mask => .pullMask .u mask
  | .rts => .pullPc
  | .abx => .addBX
  | .rti => .returnFromInterrupt
  | .cwai v => .waitCwai v
  | .mul => .mulAB
  | .swi => .softInt .swi true
  | .nega => .unaryAcc .neg .a
  | .coma => .unaryAcc .com .a
  | .lsra => .unaryAcc .lsr .a
  | .rora => .unaryAcc .ror .a
  | .asra => .unaryAcc .asr .a
  | .asla => .unaryAcc .asl .a
  | .rola => .unaryAcc .rol .a
  | .deca => .unaryAcc .dec .a
  | .inca => .unaryAcc .inc .a
  | .tsta => .testAcc .a
  | .clra => .clearAcc .a
  | .negb => .unaryAcc .neg .b
  | .comb => .unaryAcc .com .b
  | .lsrb => .unaryAcc .lsr .b
  | .rorb => .unaryAcc .ror .b
  | .asrb => .unaryAcc .asr .b
  | .aslb => .unaryAcc .asl .b
  | .rolb => .unaryAcc .rol .b
  | .decb => .unaryAcc .dec .b
  | .incb => .unaryAcc .inc .b
  | .tstb => .testAcc .b
  | .clrb => .clearAcc .b
  | .suba m => .subAcc .a false m
  | .cmpa m => .cmpAcc .a m
  | .sbca m => .subAcc .a true m
  | .subd m => .subD m
  | .anda m => .logicAcc (fun a m => a &&& m) .a m
  | .bita m => .bitTest .a m
  | .lda m => .load8 .a m
  | .eora m => .logicAcc (fun a m => a ^^^ m) .a m
  | .adca m => .addAcc .a true m
  | .ora m => .logicAcc (fun a m => a ||| m) .a m
  | .adda m => .addAcc .a false m
  | .cmpx m => .cmp16 .x m
  | .bsr off => .call8 off
  | .ldx m => .load16 .x m
  | .sta e => .store8 .a e
  | .jsr e => .callEa e
  | .stx e => .store16 .x e
  | .subb m => .subAcc .b false m
  | .cmpb m => .cmpAcc .b m
  | .sbcb m => .subAcc .b true m
  | .addd m => .addD m
  | .andb m => .logicAcc (fun a m => a &&& m) .b m
  | .bitb m => .bitTest .b m
  | .ldb m => .load8 .b m
  | .eorb m => .logicAcc (fun a m => a ^^^ m) .b m
  | .adcb m => .addAcc .b true m
  | .orb m => .logicAcc (fun a m => a ||| m) .b m
  | .addb m => .addAcc .b false m
  | .ldd m => .load16 .d m
  | .ldu m => .load16 .u m
  | .stb e => .store8 .b e
  | .std e => .store16 .d e
  | .stu e => .store16 .u e
  | .lbrn _ => .skip
  | .lbhi off => .branch16 .hi off
  | .lbls off => .branch16 .ls off
  | .lbcc off => .branch16 .cc off
  | .lbcs off => .branch16 .cs off
  | .lbne off => .branch16 .ne off
  | .lbeq off => .branch16 .eq off
  | .lbvc off => .branch16 .vc off
  | .lbvs off => .branch16 .vs off
  | .lbpl off => .branch16 .pl off
  | .lbmi off => .branch16 .mi off
  | .lbge off => .branch16 .ge off
  | .lblt off => .branch16 .lt off
  | .lbgt off => .branch16 .gt off
  | .lble off => .branch16 .le off
  | .swi2 => .softInt .swi2 false
  | .cmpd m => .cmp16 .d m
  | .cmpy m => .cmp16 .y m
  | .ldy m => .load16 .y m
  | .sty e => .store16 .y e
  | .lds m => .load16 .s m
  | .sts e => .store16 .s e
  | .swi3 => .softInt .swi3 false
  | .cmpu m => .cmp16 .u m
  | .cmps m => .cmp16 .s m

/-- Every arm of `exec` is one shared operation, then the end of the instruction. -/
theorem exec_eq_finish (i : Instr) (s : State) : exec i s = finish ((opOf i).run s) := by
  cases i <;> rfl

theorem exec_next_iff {i : Instr} {s t : State} :
    exec i s = .next t ↔ ((opOf i).run s).defragIssued = false ∧ t = (opOf i).run s := by
  rw [exec_eq_finish, finish_next_iff]

/-! ### The tables of the statements, by operation -/

/-- An accumulator by its name in TFR and EXG. -/
def Acc.reg : Acc → Reg
  | .a => .a
  | .b => .b

/-- A 16-bit register by its name in TFR and EXG. -/
def Reg16.reg : Reg16 → Reg
  | .d => .d
  | .x => .x
  | .y => .y
  | .u => .u
  | .s => .s

/-- A stack pointer by its name in TFR and EXG. -/
def Stack.reg : Stack → Reg
  | .s => .s
  | .u => .u

/-- `Instr.destinations`, by operation. -/
def Op.destinations : Op → List Reg
  | .addAcc r _ _ | .subAcc r _ _ | .logicAcc _ r _ | .load8 r _ | .unaryAcc _ r | .clearAcc r => [r.reg]
  | .decimalAdjust | .signExtend => [.a]
  | .addD _ | .subD _ | .mulAB => [.d]
  | .load16 r _ | .leaZ r _ | .lea r _ => [r.reg]
  | .addBX => [.x]
  | .pushMask k _ => [k.reg]
  | .call8 _ | .call16 _ | .callEa _ | .pullPc | .softInt _ _ | .waitCwai _ => [.s]
  | .transfer src dst => ((pairRegs src dst).map fun p => [p.2]).getD []
  | .exchange src dst => ((pairRegs src dst).map fun p => [p.1, p.2]).getD []
  | .pullMask k mask => k.reg :: (selected mask pullOrder).map (StackItem.reg k)
  | .returnFromInterrupt => [.s, .a, .b, .dp, .x, .y, .u]
  | _ => []

/-- `Instr.autoReg`, by operation. -/
def Op.autoReg : Op → Option IdxReg
  | .addAcc _ _ m | .subAcc _ _ m | .cmpAcc _ m | .logicAcc _ _ m | .bitTest _ m | .load8 _ m => Src8.autoReg m
  | .addD m | .subD m | .cmp16 _ m | .load16 _ m => Src16.autoReg m
  | .unaryMem _ e | .testMem e | .clearMem e | .store8 _ e | .store16 _ e | .jumpEa e | .callEa e => MemForm.autoReg e
  | .leaZ _ m | .lea _ m => Indexed.autoReg m
  | _ => none

/-- The flags of the one-operand operations (10_state.md R36). -/
def UnaryOp.flagMask : UnaryOp → Byte
  | .neg | .asl => 0x2F
  | .inc | .dec => 0x0E
  | .com | .rol => 0x0F
  | .asr => 0x2D
  | .lsr | .ror => 0x0D

/-- `Instr.flagMask`, by operation. -/
def Op.flagMask : Op → Byte
  | .addAcc _ _ _ | .subAcc _ _ _ | .cmpAcc _ _ => 0x2F
  | .logicAcc _ _ _ | .bitTest _ _ | .load8 _ _ | .load16 _ _ | .store8 _ _ | .store16 _ _ | .testMem _ | .testAcc _
  | .signExtend => 0x0E
  | .addD _ | .subD _ | .cmp16 _ _ | .clearMem _ | .clearAcc _ | .decimalAdjust => 0x0F
  | .unaryAcc op _ | .unaryMem op _ => op.flagMask
  | .leaZ _ _ => 0x04
  | .mulAB => 0x05
  | .andCC _ | .orCC _ | .waitCwai _ | .returnFromInterrupt => 0xFF
  | .softInt _ masks => if masks then 0xD0 else 0x80
  | .transfer src dst => if (pairRegs src dst).any fun p => p.2 == .cc then 0xFF else 0x00
  | .exchange src dst => if (pairRegs src dst).any fun p => p.1 == .cc || p.2 == .cc then 0xFF else 0x00
  | .pullMask _ mask => if mask.getLsbD 0 then 0xFF else 0x00
  | _ => 0x00

/-- `Instr.writesPc`, by operation. -/
def Op.writesPc : Op → Bool
  | .branch8 k _ | .branch16 k _ => k != .never
  | .jump16 _ | .jumpEa _ | .call8 _ | .call16 _ | .callEa _ | .pullPc | .softInt _ _ | .returnFromInterrupt => true
  | .transfer src dst => (pairRegs src dst).any fun p => p.2 == .pc
  | .exchange src dst => (pairRegs src dst).any fun p => p.1 == .pc || p.2 == .pc
  | .pullMask _ mask => mask.getLsbD 7
  | _ => false

/-- `Instr.loadsS`, by operation. -/
def Op.loadsS : Op → Bool
  | .load16 r _ | .leaZ r _ | .lea r _ => r == .s
  | .transfer src dst => (pairRegs src dst).any fun p => p.2 == .s
  | .exchange src dst => (pairRegs src dst).any fun p => p.1 == .s || p.2 == .s
  | .pullMask k mask => k == .u && mask.getLsbD 6
  | _ => false

theorem destinations_opOf (i : Instr) : (opOf i).destinations = Instr.destinations i := by
  cases i <;> rfl

theorem autoReg_opOf (i : Instr) : (opOf i).autoReg = Instr.autoReg i := by
  cases i <;> rfl

theorem flagMask_opOf (i : Instr) : (opOf i).flagMask = Instr.flagMask i := by
  cases i <;> rfl

theorem writesPc_opOf (i : Instr) : (opOf i).writesPc = Instr.writesPc i := by
  cases i <;> rfl

theorem loadsS_opOf (i : Instr) : (opOf i).loadsS = Instr.loadsS i := by
  cases i <;> rfl

end Sys2Proof.Machine

/-! PROOFS. What is left of the machine after an instruction (10_state.md R38 to R43), and what every step keeps. -/

namespace Sys2Proof.Machine

/-! ### Control state -/

/-- `t` has the configuration, the inputs, the ROMs and the execution loop of `s`, but that a load of S (`loads`) has
cleared `nmi_disabled` (10_state.md R24, R40). -/
structure State.ControlAfter (s t : State) (loads : Bool) : Prop where
  cfg : t.cfg = s.cfg
  nmiHist : t.nmiHist = s.nmiHist
  nmiDisabled : t.nmiDisabled = (s.nmiDisabled && !loads)
  wait : t.wait = s.wait
  fault : t.fault = s.fault
  nmiN : t.nmiN = s.nmiN
  firqN : t.firqN = s.firqN
  irqN : t.irqN = s.irqN
  rom : t.rom = s.rom

theorem State.ControlAfter.refl (s : State) : s.ControlAfter s false := by
  constructor <;> simp

theorem State.ControlAfter.trans {s t u : State} {l l' : Bool} (h : s.ControlAfter t l) (k : t.ControlAfter u l') :
    s.ControlAfter u (l || l') where
  cfg := k.cfg.trans h.cfg
  nmiHist := k.nmiHist.trans h.nmiHist
  nmiDisabled := by rw [k.nmiDisabled, h.nmiDisabled, Bool.not_or, Bool.and_assoc]
  wait := k.wait.trans h.wait
  fault := k.fault.trans h.fault
  nmiN := k.nmiN.trans h.nmiN
  firqN := k.firqN.trans h.firqN
  irqN := k.irqN.trans h.irqN
  rom := k.rom.trans h.rom

theorem State.SameRegs.controlAfter {s t : State} (h : s.SameRegs t) : s.ControlAfter t false where
  cfg := h.cfg
  nmiHist := h.nmiHist
  nmiDisabled := by rw [h.nmiDisabled, Bool.not_false, Bool.and_true]
  wait := h.wait
  fault := h.fault
  nmiN := h.nmiN
  firqN := h.firqN
  irqN := h.irqN
  rom := h.rom

theorem State.loadReg16_controlAfter (s : State) (r : Reg16) (w : Word) :
    s.ControlAfter (s.loadReg16 r w) (r == .s) := by
  cases r <;> constructor <;> simp [State.loadReg16]

theorem State.regWrite_controlAfter (s : State) (q : Reg) (w : Word) : s.ControlAfter (s.regWrite q w) (q == .s) := by
  cases q <;> constructor <;> simp [State.regWrite]

theorem pushItems_controlAfter (k : Stack) (is : List StackItem) (s : State) :
    s.ControlAfter (pushItems k is s) false := by
  constructor <;> simp

theorem pullItem_controlAfter (k : Stack) (i : StackItem) (s : State) :
    s.ControlAfter (pullItem k i s) (k == .u && i == .other) := by
  cases i <;> cases k <;> constructor <;> simp [pullItem]

/-- Pulling S from the U stack is a load of S (45_stack_system.md R424). -/
theorem pullItems_controlAfter (k : Stack) (is : List StackItem) (s : State) :
    s.ControlAfter (pullItems k is s) (k == .u && is.contains .other) := by
  unfold pullItems
  induction is generalizing s with
  | nil => simpa using State.ControlAfter.refl s
  | cons i is ih =>
    have h := (pullItem_controlAfter k i s).trans (ih (pullItem k i s))
    rw [← Bool.and_or_distrib_left] at h
    rwa [List.contains_cons, BEq.comm (a := StackItem.other)]

/-- The postbyte of a pull names the other stack pointer by bit 6 (30_encoding.md R143). -/
theorem selected_contains_other (mask : Byte) : (selected mask pullOrder).contains .other = mask.getLsbD 6 := by
  rw [Bool.eq_iff_iff, List.contains_iff_mem, selected, List.mem_filter]
  simp [pullOrder, StackItem.bit]

/-! ### The frame of an operation -/

/-- What an operation may do to the control state (10_state.md R24, R40, R41, R43). -/
structure Op.ControlFrame (o : Op) (s t : State) : Prop where
  cfg : t.cfg = s.cfg
  nmiHist : t.nmiHist = s.nmiHist
  nmiN : t.nmiN = s.nmiN
  firqN : t.firqN = s.firqN
  irqN : t.irqN = s.irqN
  rom : t.rom = s.rom
  nmiDisabled : t.nmiDisabled = (s.nmiDisabled && !o.loadsS)
  wait : o ≠ .waitSync → (∀ v, o ≠ .waitCwai v) → t.wait = s.wait
  fault : (∀ p q, o ≠ .transfer p q ∧ o ≠ .exchange p q) → t.fault = s.fault

theorem State.ControlAfter.frame {o : Op} {s t : State} (h : s.ControlAfter t o.loadsS) : o.ControlFrame s t where
  cfg := h.cfg
  nmiHist := h.nmiHist
  nmiN := h.nmiN
  firqN := h.firqN
  irqN := h.irqN
  rom := h.rom
  nmiDisabled := h.nmiDisabled
  wait _ _ := h.wait
  fault _ := h.fault

/-- TFR and EXG write registers, or raise a fault and write none (41_load_store_transfer.md R229, R230). -/
theorem transfer_controlFrame (src dst : BitVec 4) (s : State) :
    (Op.transfer src dst).ControlFrame s (transfer src dst s) := by
  unfold transfer
  split
  · next r q hpair =>
    exact State.ControlAfter.frame (by simpa [Op.loadsS, hpair] using s.regWrite_controlAfter q (s.regRead r))
  · next hpair =>
    constructor <;> simp [badPair, Op.loadsS, hpair]

theorem exchange_controlFrame (src dst : BitVec 4) (s : State) :
    (Op.exchange src dst).ControlFrame s (exchange src dst s) := by
  unfold exchange
  split
  · next r q hpair =>
    have h := (s.regWrite_controlAfter q (s.regRead r)).trans (State.regWrite_controlAfter _ r (s.regRead q))
    exact State.ControlAfter.frame (by simpa [Op.loadsS, hpair, Bool.or_comm] using h)
  · next hpair =>
    constructor <;> simp [badPair, Op.loadsS, hpair]

theorem returnFromInterrupt_controlAfter (s : State) : s.ControlAfter (returnFromInterrupt s) false := by
  have hcc := pullItem_controlAfter .s .cc s
  unfold returnFromInterrupt
  dsimp only
  split
  · have hbusy (t : State) : t.ControlAfter (t.addBusy 9) false := by constructor <;> simp
    exact ((hcc.trans (pullItems_controlAfter .s rtiItems _)).trans (hbusy _)).trans (pullItem_controlAfter .s .pc _)
  · exact hcc.trans (pullItem_controlAfter .s .pc _)

theorem unaryFlags_controlAfter (op : Unary) (m : Byte) (s : State) : s.ControlAfter (unaryFlags op m s) false := by
  unfold unaryFlags
  split <;> constructor <;> simp

theorem setAcc_controlAfter (r : Acc) (v : Byte) (s : State) : s.ControlAfter (s.setAcc r v) false := by
  constructor <;> simp

theorem memEa_controlAfter (e : MemForm) (s : State) : s.ControlAfter (MemForm.ea e s).2 false := by
  constructor <;> simp

/-- Every operation keeps to its frame. -/
theorem run_controlFrame (o : Op) (s : State) : o.ControlFrame s (o.run s) := by
  cases o
  case transfer src dst => exact transfer_controlFrame src dst s
  case exchange src dst => exact exchange_controlFrame src dst s
  case waitCwai v => constructor <;> simp [Op.run, pushEntire, pushAll, Op.loadsS]
  case waitSync => constructor <;> simp [Op.run, Op.loadsS]
  all_goals refine State.ControlAfter.frame ?_
  case addAcc r c m => constructor <;> simp [Op.run, addAcc, Op.loadsS]
  case subAcc r c m => constructor <;> simp [Op.run, subAcc, sub8Flags, Op.loadsS]
  case cmpAcc r m => constructor <;> simp [Op.run, cmpAcc, sub8Flags, Op.loadsS]
  case logicAcc f r m => constructor <;> simp [Op.run, logicAcc, Op.loadsS]
  case bitTest r m => constructor <;> simp [Op.run, bitTest, Op.loadsS]
  case load8 r m => constructor <;> simp [Op.run, load8, Op.loadsS]
  case addD m => constructor <;> simp [Op.run, addD, Op.loadsS]
  case subD m => constructor <;> simp [Op.run, subD, Op.loadsS]
  case cmp16 r m => constructor <;> simp [Op.run, cmp16, Op.loadsS]
  case load16 r m =>
    have h := (Src16.read m s).2.loadReg16_controlAfter r (Src16.read m s).1
    constructor <;> simp [Op.run, load16, Op.loadsS, h.nmiDisabled]
  case unaryAcc op r => exact (unaryFlags_controlAfter _ _ s).trans (setAcc_controlAfter r _ _)
  case testAcc r => constructor <;> simp [Op.run, testAcc, Op.loadsS]
  case clearAcc r => constructor <;> simp [Op.run, clearAcc, Op.loadsS]
  case unaryMem op e =>
    have h := (memEa_controlAfter e s).trans (busRead_sameRegs _ (MemForm.ea e s).1).controlAfter
    exact (h.trans (unaryFlags_controlAfter _ _ _)).trans (busWrite_sameRegs _ _ _).controlAfter
  case testMem e => constructor <;> simp [Op.run, testMem, Op.loadsS]
  case clearMem e => constructor <;> simp [Op.run, clearMem, Op.loadsS]
  case store8 r e => constructor <;> simp [Op.run, store8, Op.loadsS]
  case store16 r e => constructor <;> simp [Op.run, store16, Op.loadsS]
  case leaZ r m =>
    have h := (Indexed.ea m s).2.loadReg16_controlAfter r (Indexed.ea m s).1
    constructor <;> simp [Op.run, leaZ, Op.loadsS, h.nmiDisabled]
  case lea r m =>
    have h := (Indexed.ea m s).2.loadReg16_controlAfter r (Indexed.ea m s).1
    constructor <;> simp [Op.run, lea, Op.loadsS, h.nmiDisabled]
  case mulAB => constructor <;> simp [Op.run, mulAB, Op.loadsS]
  case decimalAdjust => constructor <;> simp [Op.run, decimalAdjust, Op.loadsS]
  case signExtend => constructor <;> simp [Op.run, signExtend, Op.loadsS]
  case addBX => constructor <;> simp [Op.run, addBX, Op.loadsS]
  case andCC v => constructor <;> simp [Op.run, Op.loadsS]
  case orCC v => constructor <;> simp [Op.run, Op.loadsS]
  case branch8 k off => cases hk : k.holds s.cc <;> constructor <;> simp [Op.run, branch8, Op.loadsS, hk]
  case branch16 k off => cases hk : k.holds s.cc <;> constructor <;> simp [Op.run, branch16, Op.loadsS, hk]
  case jump16 off => constructor <;> simp [Op.run, Op.loadsS]
  case jumpEa e => constructor <;> simp [Op.run, Op.loadsS]
  case call8 off => constructor <;> simp [Op.run, call, Op.loadsS]
  case call16 off => constructor <;> simp [Op.run, call, Op.loadsS]
  case callEa e => constructor <;> simp [Op.run, call, Op.loadsS]
  case pullPc => exact pullItem_controlAfter .s .pc s
  case skip => exact .refl s
  case pushMask k mask => constructor <;> simp [Op.run, pushMask, Op.loadsS]
  case pullMask k mask =>
    have h := pullItems_controlAfter k (selected mask pullOrder) s
    rw [selected_contains_other] at h
    constructor <;> simp [Op.run, pullMask, Op.loadsS, h.cfg, h.nmiHist, h.nmiDisabled, h.wait, h.fault, h.nmiN, h.firqN,
      h.irqN, h.rom]
  case softInt v masks => cases masks <;> constructor <;> simp [Op.run, pushEntire, pushAll, Op.loadsS]
  case returnFromInterrupt => exact returnFromInterrupt_controlAfter s

/-- Settles O16, from the frame of the operation that the instruction is. -/
theorem controlFrame : Obligations.ControlFrame := by
  intro i s t ht
  obtain ⟨-, rfl⟩ := exec_next_iff.mp ht
  have h := run_controlFrame (opOf i) s
  refine ⟨h.cfg, h.nmiHist, h.nmiN, h.firqN, h.irqN, h.rom, loadsS_opOf i ▸ h.nmiDisabled, fun hs hc => ?_, fun hf => ?_⟩
  · refine h.wait (fun e => hs ?_) fun v e => hc v ?_
    · cases i <;> cases e
      rfl
    · cases i <;> cases e
      rfl
  · refine h.fault fun p q => ⟨fun e => (hf p q).1 ?_, fun e => (hf p q).2 ?_⟩
    · cases i <;> cases e
      rfl
    · cases i <;> cases e
      rfl

end Sys2Proof.Machine

/-! PROOFS. What every step keeps: a sound state, the configuration, the lines and the ROMs. -/

namespace Sys2Proof.Machine

/-! ### Soundness, taken apart -/

/-- What soundness says of the fault latch: a kind that some rule raises, and no count (60_exceptions.md R523, R524). -/
def State.FaultOk (s : State) : Prop := ∀ r, s.fault = some r → r.kind ≠ .invalidAddressingMode ∧ s.busy = 0

theorem State.faultOk_of_none {s : State} (h : s.fault = none) : s.FaultOk := by
  simp [State.FaultOk, h]

theorem State.faultOk_iff (s : State) : s.FaultOk ↔ s.faultKindOk = true ∧ s.haltedIdle = true := by
  unfold State.FaultOk State.faultKindOk State.haltedIdle State.halted
  cases s.fault <;> simp

theorem State.kept_iff (s : State) : s.Kept ↔ s.cfg.wf = true ∧ s.memoriesWf = true ∧ s.countersOk = true := by
  simp only [State.memoriesWf, State.countersOk, Bool.and_eq_true, beq_iff_eq]
  constructor
  · rintro ⟨hc, h1, h2, h3, h4, hp, hn⟩
    exact ⟨hc, ⟨⟨⟨⟨h1, h2⟩, h3⟩, h4⟩, hp⟩, hn⟩
  · rintro ⟨hc, ⟨⟨⟨⟨h1, h2⟩, h3⟩, h4⟩, hp⟩, hn⟩
    exact ⟨hc, h1, h2, h3, h4, hp, hn⟩

theorem State.sound_iff (s : State) : s.sound = true ↔ s.Kept ∧ s.FaultOk ∧ s.defragIssued = false := by
  simp only [State.sound, Bool.and_eq_true, Bool.not_eq_true', State.kept_iff, State.faultOk_iff, and_assoc]

/-! ### Every operation keeps the canonical forms -/

theorem State.Kept.loadReg16 {s : State} (h : s.Kept) (r : Reg16) (w : Word) : (s.loadReg16 r w).Kept :=
  h.of_mem (by simp) (by simp) (by simp) (by simp) (by simp) (by simp)

theorem State.Kept.regWrite {s : State} (h : s.Kept) (q : Reg) (w : Word) : (s.regWrite q w).Kept :=
  h.of_mem (by simp) (by simp) (by simp) (by simp) (by simp) (by simp)

theorem State.Kept.setAcc {s : State} (h : s.Kept) (r : Acc) (v : Byte) : (s.setAcc r v).Kept :=
  h.of_mem (by simp) (by simp) (by simp) (by simp) (by simp) (by simp)

/-- CC is no part of the canonical forms. -/
theorem State.Kept.withCC {s : State} (h : s.Kept) (f : CC) : { s with cc := f }.Kept :=
  h.of_mem rfl rfl rfl rfl rfl rfl

theorem State.Kept.withPc {s : State} (h : s.Kept) (a : Addr) : { s with pc := a }.Kept :=
  h.of_mem rfl rfl rfl rfl rfl rfl

theorem State.Kept.withWait {s : State} (h : s.Kept) (w : WaitState) : { s with wait := w }.Kept :=
  h.of_mem rfl rfl rfl rfl rfl rfl

theorem State.Kept.withBusy {s : State} (h : s.Kept) (n : Nat) : { s with busy := n }.Kept :=
  h.of_mem rfl rfl rfl rfl rfl rfl

theorem State.Kept.addBusy {s : State} (h : s.Kept) (n : Nat) : (s.addBusy n).Kept :=
  h.of_mem rfl rfl rfl rfl rfl rfl

theorem State.Kept.raise {s : State} (h : s.Kept) (k : FaultKind) (w : Word) (a : Addr) : (s.raise k w a).Kept :=
  h.of_mem rfl rfl rfl rfl rfl rfl

theorem State.Kept.sub8Flags {s : State} (h : s.Kept) (a m : Byte) (c : Bool) : (sub8Flags a m c s).Kept :=
  h.of_mem rfl rfl rfl rfl rfl rfl

theorem State.Kept.unaryFlags {s : State} (h : s.Kept) (op : Unary) (m : Byte) : (unaryFlags op m s).Kept := by
  unfold Machine.unaryFlags
  split
  · exact h.of_mem rfl rfl rfl rfl rfl rfl
  · exact h.withCC _

theorem State.Kept.setE {s : State} (h : s.Kept) (v : Bool) : (s.setE v).Kept := h.withCC _

theorem State.Kept.maskInterrupts {s : State} (h : s.Kept) : s.maskInterrupts.Kept := h.withCC _

theorem State.Kept.andCC {s : State} (h : s.Kept) (v : Byte) : (s.andCC v).Kept := h.withCC _

theorem State.Kept.pushEntire {s : State} (h : s.Kept) : (pushEntire s).Kept := (h.setE true).pushItems .s pushOrder

theorem State.Kept.call {s : State} (h : s.Kept) (a : Addr) : (call a s).Kept := (h.push16 .s s.pc).withPc a

theorem State.Kept.transfer {s : State} (h : s.Kept) (src dst : BitVec 4) : (transfer src dst s).Kept := by
  unfold Machine.transfer
  split
  · exact h.regWrite _ _
  · exact h.raise _ _ _

theorem State.Kept.exchange {s : State} (h : s.Kept) (src dst : BitVec 4) : (exchange src dst s).Kept := by
  unfold Machine.exchange
  split
  · exact (h.regWrite _ _).regWrite _ _
  · exact h.raise _ _ _

theorem State.Kept.returnFromInterrupt {s : State} (h : s.Kept) : (returnFromInterrupt s).Kept := by
  have hcc := h.pullItem .s .cc
  unfold Machine.returnFromInterrupt
  dsimp only
  split
  · exact ((hcc.pullItems .s rtiItems).addBusy 9).pullItem .s .pc
  · exact hcc.pullItem .s .pc

/-- Every operation keeps the canonical forms (10_state.md R46, R49 (g)). -/
theorem State.Kept.run {s : State} (h : s.Kept) (o : Op) : (o.run s).Kept := by
  cases o
  case addAcc r c m => exact ((h.src8 m).setAcc r _).withCC _
  case subAcc r c m => exact ((h.src8 m).sub8Flags _ _ _).setAcc r _
  case cmpAcc r m => exact (h.src8 m).sub8Flags _ _ _
  case logicAcc f r m => exact ((h.src8 m).setAcc r _).withCC _
  case bitTest r m => exact (h.src8 m).withCC _
  case load8 r m => exact ((h.src8 m).setAcc r _).withCC _
  case addD m => exact ((h.src16 m).loadReg16 .d _).withCC _
  case subD m => exact ((h.src16 m).loadReg16 .d _).withCC _
  case cmp16 r m => exact (h.src16 m).withCC _
  case load16 r m => exact ((h.src16 m).loadReg16 r _).withCC _
  case unaryAcc op r => exact (h.unaryFlags _ _).setAcc r _
  case testAcc r => exact h.withCC _
  case clearAcc r => exact (h.setAcc r _).withCC _
  case unaryMem op e => exact (((h.memEa e).busRead _).unaryFlags _ _).busWrite _ _
  case testMem e => exact ((h.memEa e).busRead _).withCC _
  case clearMem e => exact ((h.memEa e).busWrite _ _).withCC _
  case store8 r e => exact ((h.memEa e).busWrite _ _).withCC _
  case store16 r e => exact ((h.memEa e).write16 _ _).withCC _
  case leaZ r m => exact ((h.indexedEa m).loadReg16 r _).withCC _
  case lea r m => exact (h.indexedEa m).loadReg16 r _
  case mulAB => exact (h.loadReg16 .d _).withCC _
  case decimalAdjust => exact h.of_mem rfl rfl rfl rfl rfl rfl
  case signExtend => exact h.of_mem rfl rfl rfl rfl rfl rfl
  case addBX => exact h.loadReg16 .x _
  case andCC v => exact h.andCC v
  case orCC v => exact h.withCC _
  case transfer src dst => exact h.transfer src dst
  case exchange src dst => exact h.exchange src dst
  case branch8 k off =>
    simp only [Op.run, branch8]
    split
    · exact h.withPc _
    · exact h
  case branch16 k off =>
    simp only [Op.run, branch16]
    split
    · exact (h.addBusy 1).withPc _
    · exact h
  case jump16 off => exact h.withPc _
  case jumpEa e => exact (h.memEa e).withPc _
  case call8 off => exact h.call _
  case call16 off => exact h.call _
  case callEa e => exact (h.memEa e).call _
  case pullPc => exact h.pullItem .s .pc
  case skip => exact h
  case pushMask k mask => exact (h.pushItems k _).addBusy _
  case pullMask k mask => exact (h.pullItems k _).addBusy _
  case softInt v masks =>
    simp only [Op.run]
    split
    · exact h.pushEntire.maskInterrupts.jumpVector v
    · exact h.pushEntire.jumpVector v
  case returnFromInterrupt => exact h.returnFromInterrupt
  case waitCwai v => exact (h.andCC v).pushEntire.withWait .cwai
  case waitSync => exact h.withWait .sync

/-! ### The fault latch -/

theorem badPair_faultOk (src dst : BitVec 4) (s : State) : (badPair src dst s).FaultOk := by
  simp [State.FaultOk, badPair, State.raise]

/-- An operation of a machine that is not halted halts it by a bad register pair or not at all. -/
theorem run_faultOk (o : Op) {s : State} (h : s.fault = none) : (o.run s).FaultOk := by
  by_cases ho : ∃ p q, o = .transfer p q ∨ o = .exchange p q
  · obtain ⟨p, q, rfl | rfl⟩ := ho
    · simp only [Op.run, transfer]
      split
      · exact State.faultOk_of_none (by simpa using h)
      · exact badPair_faultOk p q s
    · simp only [Op.run, exchange]
      split
      · exact State.faultOk_of_none (by simpa using h)
      · exact badPair_faultOk p q s
  · simp only [not_exists, not_or] at ho
    exact State.faultOk_of_none (((run_controlFrame o s).fault ho).trans h)

theorem raiseReject_faultOk (r : Reject) (a : Addr) (s : State) : (raiseReject r a s).FaultOk := by
  cases r <;> simp [State.FaultOk, raiseReject, State.raise]

theorem State.Kept.raiseReject {s : State} (h : s.Kept) (r : Reject) (a : Addr) : (raiseReject r a s).Kept := by
  cases r
  · exact h.raise _ _ _
  · exact h.raise _ _ _

/-! ### What no step changes -/

/-- `t` has the configuration, the lines and the ROMs of `s`, and NMI is not disabled where it was not. -/
structure State.Settled (s t : State) : Prop where
  cfg : t.cfg = s.cfg
  rom : t.rom = s.rom
  nmiN : t.nmiN = s.nmiN
  firqN : t.firqN = s.firqN
  irqN : t.irqN = s.irqN
  nmiDisabled : s.nmiDisabled = false → t.nmiDisabled = false

theorem State.Settled.refl (s : State) : s.Settled s := ⟨rfl, rfl, rfl, rfl, rfl, id⟩

theorem State.Settled.trans {s t u : State} (h : s.Settled t) (k : t.Settled u) : s.Settled u where
  cfg := k.cfg.trans h.cfg
  rom := k.rom.trans h.rom
  nmiN := k.nmiN.trans h.nmiN
  firqN := k.firqN.trans h.firqN
  irqN := k.irqN.trans h.irqN
  nmiDisabled := k.nmiDisabled ∘ h.nmiDisabled

theorem run_settled (o : Op) (s : State) : s.Settled (o.run s) := by
  have h := run_controlFrame o s
  exact ⟨h.cfg, h.rom, h.nmiN, h.firqN, h.irqN, fun hs => by rw [h.nmiDisabled, hs, Bool.false_and]⟩

theorem raiseReject_settled (r : Reject) (a : Addr) (s : State) : s.Settled (raiseReject r a s) := by
  cases r
  · exact ⟨rfl, rfl, rfl, rfl, rfl, id⟩
  · exact ⟨rfl, rfl, rfl, rfl, rfl, id⟩

/-! ### Fetch -/

theorem State.Kept.fetch8 {s : State} (h : s.Kept) : (fetch8 s).2.Kept := (h.busRead s.pc).withPc _

theorem fetch8_settled (s : State) : s.Settled (fetch8 s).2 := by
  constructor <;> simp [fetch8]

theorem fetch8_fault (s : State) : (fetch8 s).2.fault = s.fault := by simp [fetch8]

/-- The fetch is a run of byte fetches: it keeps whatever each of them keeps. -/
theorem fetchWith_induction {P : State → Prop} (hP : ∀ s, P s → P (fetch8 s).2) (r : Reader) {s : State} (h : P s) :
    P (fetchWith r s).2 := by
  induction r generalizing s with
  | done r => exact h
  | more k ih => exact ih _ (hP s h)

theorem State.Kept.fetch {s : State} (h : s.Kept) : (fetch s).2.Kept :=
  fetchWith_induction (fun _ k => k.fetch8) decoder h

theorem fetch_settled (s : State) : s.Settled (fetch s).2 :=
  fetchWith_induction (P := s.Settled) (fun t k => k.trans (fetch8_settled t)) decoder (.refl s)

theorem fetch_fault (s : State) : (fetch s).2.fault = s.fault :=
  fetchWith_induction (P := fun t => t.fault = s.fault) (fun t k => (fetch8_fault t).trans k) decoder rfl

/-! ### Interrupt entry -/

theorem State.Kept.pushFrame {s : State} (h : s.Kept) (k : Interrupt) : (pushFrame k s).Kept := by
  cases k
  · exact h.pushEntire
  · exact (h.setE false).pushItems .s _
  · exact h.pushEntire

theorem pushFrame_controlAfter (k : Interrupt) (s : State) : s.ControlAfter (pushFrame k s) false := by
  have hE (v : Bool) : s.ControlAfter (s.setE v) false := by constructor <;> simp
  cases k
  · exact (hE true).trans (pushItems_controlAfter .s pushOrder _)
  · exact (hE false).trans (pushItems_controlAfter .s [.pc, .cc] _)
  · exact (hE true).trans (pushItems_controlAfter .s pushOrder _)

/-- The end of an entry: interrupts masked, PC from the vector, the cycles counted (60_exceptions.md R528). -/
theorem State.Kept.enterVector {s : State} (h : s.Kept) (v : Vector) (n : Nat) :
    { Machine.jumpVector v s.maskInterrupts with busy := n }.Kept :=
  (h.maskInterrupts.jumpVector v).withBusy n

theorem State.Kept.enterInterrupt {s : State} (h : s.Kept) (k : Interrupt) (pre : Bool) :
    (enterInterrupt k pre s).Kept := by
  cases pre
  · exact (h.pushFrame k).enterVector _ _
  · exact h.enterVector _ _

theorem enterVector_controlAfter (v : Vector) (n : Nat) (s : State) :
    s.ControlAfter { jumpVector v s.maskInterrupts with busy := n } false := by
  constructor <;> simp

theorem enterInterrupt_controlAfter (k : Interrupt) (pre : Bool) (s : State) :
    s.ControlAfter (enterInterrupt k pre s) false := by
  cases pre
  · exact (pushFrame_controlAfter k s).trans (enterVector_controlAfter _ _ _)
  · exact enterVector_controlAfter _ _ s

theorem State.ControlAfter.settled {s t : State} {l : Bool} (h : s.ControlAfter t l) : s.Settled t :=
  ⟨h.cfg, h.rom, h.nmiN, h.firqN, h.irqN, fun hs => by rw [h.nmiDisabled, hs, Bool.false_and]⟩

/-! ### What a step can be -/

/-- The state an evaluation goes on from: the NMI line noted, no wait (60_exceptions.md R528). -/
def State.awake (s : State) : State := { s with nmiHist := s.nmiN, wait := .normal }

theorem State.Kept.awake {s : State} (h : s.Kept) : s.awake.Kept := h.of_mem rfl rfl rfl rfl rfl rfl

theorem awake_settled (s : State) : s.Settled s.awake := ⟨rfl, rfl, rfl, rfl, rfl, id⟩

theorem serviceInterrupts_cases (s : State) :
    serviceInterrupts s = (false, { s with nmiHist := s.nmiN }) ∧ s.wait ≠ .normal ∨
      (∃ k pre, serviceInterrupts s = (true, enterInterrupt k pre s.awake)) ∨
      serviceInterrupts s = (false, s.awake) := by
  unfold serviceInterrupts
  dsimp only
  split
  · next hidle => exact .inl ⟨rfl, hidle.1⟩
  · split
    · next k _ => exact .inr (.inl ⟨k, _, rfl⟩)
    · exact .inr (.inr rfl)

/-- An evaluation goes on waiting, enters an interrupt, or executes one instruction (60_exceptions.md R520, R528). -/
theorem evaluate_cases {s t : State} (h : evaluate s = .next t) :
    t = { s with nmiHist := s.nmiN } ∨ (∃ k pre, finish (enterInterrupt k pre s.awake) = .next t) ∨
      executeOne s.awake = .next t := by
  unfold evaluate at h
  obtain ⟨hs, hwait⟩ | ⟨k, pre, hs⟩ | hs := serviceInterrupts_cases s
  · exact .inl (by simpa [hs, hwait, eq_comm] using h)
  · exact .inr (.inl ⟨k, pre, by simpa [hs] using h⟩)
  · exact .inr (.inr (by simpa [hs, State.awake] using h))

/-- Everything a step can be (60_exceptions.md R520). -/
theorem step_cases {s t : State} (h : step s = .next t) :
    (s.fault ≠ none ∧ t = s) ∨ s.fault = none ∧ (t = { s with busy := s.busy - 1 } ∨ evaluate s = .next t) := by
  unfold step tick at h
  split at h
  · cases h
  split at h
  · cases h
  split at h
  · next hhalt => exact .inl ⟨by simpa [State.halted, Option.isSome_iff_ne_none] using hhalt, by cases h; rfl⟩
  next hrun =>
  refine .inr ⟨by simpa [State.halted] using hrun, ?_⟩
  split at h
  · exact .inl (by cases h; rfl)
  · exact .inr h

/-- One execution raises what the fetch rejects, or runs the operation of the fetched instruction. -/
theorem executeOne_cases {s t : State} (h : executeOne s = .next t) : t.defragIssued = false ∧
    ((∃ r, t = raiseReject r s.pc (fetch s).2) ∨ ∃ (o : Op) (n : Nat), t = o.run { (fetch s).2 with busy := n }) := by
  unfold executeOne at h
  split at h
  · next r u hf =>
    obtain ⟨hd, rfl⟩ := finish_next_iff.mp h
    exact ⟨hd, .inl ⟨r, by rw [hf]⟩⟩
  · next i u hf =>
    obtain ⟨hd, rfl⟩ := exec_next_iff.mp h
    exact ⟨hd, .inr ⟨opOf i, i.cycles, by rw [hf]⟩⟩

/-! ### Every step keeps a sound state sound, and the configuration -/

theorem State.Kept.executeOne {s t : State} (h : s.Kept) (ht : executeOne s = .next t) : t.Kept := by
  obtain ⟨-, ⟨r, rfl⟩ | ⟨o, n, rfl⟩⟩ := executeOne_cases ht
  · exact h.fetch.raiseReject r _
  · exact (h.fetch.withBusy n).run o

theorem executeOne_faultOk {s t : State} (hs : s.fault = none) (ht : executeOne s = .next t) : t.FaultOk := by
  obtain ⟨-, ⟨r, rfl⟩ | ⟨o, n, rfl⟩⟩ := executeOne_cases ht
  · exact raiseReject_faultOk r _ _
  · exact run_faultOk o ((fetch_fault s).trans hs)

theorem executeOne_settled {s t : State} (ht : executeOne s = .next t) : s.Settled t := by
  obtain ⟨-, ⟨r, rfl⟩ | ⟨o, n, rfl⟩⟩ := executeOne_cases ht
  · exact (fetch_settled s).trans (raiseReject_settled r _ _)
  · have hbusy (u : State) : u.Settled { u with busy := n } := ⟨rfl, rfl, rfl, rfl, rfl, id⟩
    exact ((fetch_settled s).trans (hbusy _)).trans (run_settled o _)

theorem evaluate_sound {s t : State} (hs : s.sound = true) (hf : s.fault = none) (ht : evaluate s = .next t) :
    t.sound = true := by
  rw [State.sound_iff] at hs ⊢
  obtain ⟨hkept, -, hdefrag⟩ := hs
  obtain rfl | ⟨k, pre, ht⟩ | ht := evaluate_cases ht
  · exact ⟨hkept.of_mem rfl rfl rfl rfl rfl rfl, State.faultOk_of_none hf, hdefrag⟩
  · obtain ⟨hd, rfl⟩ := finish_next_iff.mp ht
    exact ⟨hkept.awake.enterInterrupt k pre,
      State.faultOk_of_none ((enterInterrupt_controlAfter k pre s.awake).fault.trans hf), hd⟩
  · exact ⟨hkept.awake.executeOne ht, executeOne_faultOk (s := s.awake) hf ht, (executeOne_cases ht).1⟩

theorem evaluate_settled {s t : State} (ht : evaluate s = .next t) : s.Settled t := by
  obtain rfl | ⟨k, pre, ht⟩ | ht := evaluate_cases ht
  · exact ⟨rfl, rfl, rfl, rfl, rfl, id⟩
  · obtain ⟨-, rfl⟩ := finish_next_iff.mp ht
    exact (awake_settled s).trans (enterInterrupt_controlAfter k pre s.awake).settled
  · exact (awake_settled s).trans (executeOne_settled ht)

/-- Settles O12: a halted machine stays, a count goes down, and an evaluation keeps the canonical forms by every access it
makes. -/
theorem stepKeepsSound : Obligations.StepKeepsSound := by
  intro s t hs ht
  obtain ⟨-, rfl⟩ | ⟨hf, rfl | ht⟩ := step_cases ht
  · exact hs
  · rw [State.sound_iff] at hs ⊢
    obtain ⟨hkept, -, hdefrag⟩ := hs
    exact ⟨hkept.withBusy _, State.faultOk_of_none hf, hdefrag⟩
  · exact evaluate_sound hs hf ht

theorem step_settled {s t : State} (ht : step s = .next t) : s.Settled t := by
  obtain ⟨-, rfl⟩ | ⟨-, rfl | ht⟩ := step_cases ht
  · exact .refl t
  · exact ⟨rfl, rfl, rfl, rfl, rfl, id⟩
  · exact evaluate_settled ht

/-- Settles O13: what every step settles, and the halted case of `step_cases`. -/
theorem stepKeepsConfiguration : Obligations.StepKeepsConfiguration := by
  intro s t ht
  have h := step_settled ht
  refine ⟨h.cfg, h.rom, h.nmiN, h.firqN, h.irqN, h.nmiDisabled, fun hf => ?_⟩
  obtain ⟨-, rfl⟩ | ⟨hnone, -⟩ := step_cases ht
  · rfl
  · exact absurd hnone hf

end Sys2Proof.Machine

/-! PROOFS. The flags that an instruction may write (10_state.md R36). -/

namespace Sys2Proof.Machine

/-- `y` has every flag of `x` that `mask` does not name (10_state.md R27). -/
structure CC.Keeps (mask : Byte) (x y : CC) : Prop where
  e : mask.getLsbD 7 = false → y.e = x.e
  f : mask.getLsbD 6 = false → y.f = x.f
  h : mask.getLsbD 5 = false → y.h = x.h
  i : mask.getLsbD 4 = false → y.i = x.i
  n : mask.getLsbD 3 = false → y.n = x.n
  z : mask.getLsbD 2 = false → y.z = x.z
  v : mask.getLsbD 1 = false → y.v = x.v
  c : mask.getLsbD 0 = false → y.c = x.c

theorem CC.Keeps.refl (mask : Byte) (f : CC) : CC.Keeps mask f f := by
  constructor <;> simp

theorem CC.Keeps.of_eq {mask : Byte} {f g : CC} (h : g = f) : CC.Keeps mask f g := h ▸ .refl mask f

/-- The mask of the instructions that write CC as a whole. -/
theorem CC.Keeps.all (f g : CC) : CC.Keeps 0xFF f g := by
  constructor <;> simp

theorem CC.Keeps.eq {f g : CC} (k : CC.Keeps 0x00 f g) : g = f := by
  have he := k.e rfl
  have hf := k.f rfl
  have hh := k.h rfl
  have hi := k.i rfl
  have hn := k.n rfl
  have hz := k.z rfl
  have hv := k.v rfl
  have hc := k.c rfl
  cases f
  cases g
  simp_all

/-- The bits of CC's byte form are its flags (10_state.md R27). -/
theorem CC.toByte_getLsbD (f : CC) (j : Nat) :
    f.toByte.getLsbD j = [f.c, f.v, f.z, f.n, f.i, f.h, f.f, f.e].getD j false := by
  have flags := CC.ofByte_toByte f
  match j with
  | 0 => exact congrArg CC.c flags
  | 1 => exact congrArg CC.v flags
  | 2 => exact congrArg CC.z flags
  | 3 => exact congrArg CC.n flags
  | 4 => exact congrArg CC.i flags
  | 5 => exact congrArg CC.h flags
  | 6 => exact congrArg CC.f flags
  | 7 => exact congrArg CC.e flags
  | j + 8 => exact BitVec.getLsbD_of_ge _ _ (by omega)

theorem CC.Keeps.toByte {mask : Byte} {f g : CC} (k : CC.Keeps mask f g) {j : Nat} (hj : mask.getLsbD j = false) :
    g.toByte.getLsbD j = f.toByte.getLsbD j := by
  simp only [CC.toByte_getLsbD]
  match j with
  | 0 => exact k.c hj
  | 1 => exact k.v hj
  | 2 => exact k.z hj
  | 3 => exact k.n hj
  | 4 => exact k.i hj
  | 5 => exact k.h hj
  | 6 => exact k.f hj
  | 7 => exact k.e hj
  | j + 8 => rfl

/-! ### The flag computations (10_state.md R36) -/

theorem CC.keeps_add8 (f : CC) (a m : Byte) (c : Bool) : CC.Keeps 0x2F f (f.add8 a m c) := by
  constructor <;> simp [CC.add8]

theorem CC.keeps_sub8 (f : CC) (h : Bool) (a m : Byte) (c : Bool) : CC.Keeps 0x2F f (f.sub8 h a m c) := by
  constructor <;> simp [CC.sub8]

theorem CC.keeps_add16 (f : CC) (a m : Word) : CC.Keeps 0x0F f (f.add16 a m) := by
  constructor <;> simp [CC.add16]

theorem CC.keeps_sub16 (f : CC) (a m : Word) : CC.Keeps 0x0F f (f.sub16 a m) := by
  constructor <;> simp [CC.sub16]

theorem CC.keeps_move8 (f : CC) (r : Byte) : CC.Keeps 0x0E f (f.move8 r) := by
  constructor <;> simp [CC.move8]

theorem CC.keeps_move16 (f : CC) (r : Word) : CC.Keeps 0x0E f (f.move16 r) := by
  constructor <;> simp [CC.move16]

theorem CC.keeps_clear (f : CC) : CC.Keeps 0x0F f f.clear := by
  constructor <;> simp [CC.clear]

theorem CC.keeps_mul (f : CC) (p : Word) : CC.Keeps 0x05 f (f.mul p) := by
  constructor <;> simp [CC.mul]

theorem CC.keeps_daa (f : CC) (v : Bool) (a : Byte) : CC.Keeps 0x0F f (f.daa v a) := by
  constructor <;> simp [CC.daa]

theorem CC.keeps_sex (f : CC) (clearsV : Bool) (d : Word) : CC.Keeps 0x0E f (f.sex clearsV d) := by
  constructor <;> simp [CC.sex]

theorem CC.keeps_withZ (f : CC) (z : Bool) : CC.Keeps 0x04 f { f with z := z } := by
  constructor <;> simp

theorem CC.keeps_withE (f : CC) (e : Bool) : CC.Keeps 0x80 f { f with e := e } := by
  constructor <;> simp

theorem CC.keeps_entry (f : CC) : CC.Keeps 0xD0 f { f with e := true, f := true, i := true } := by
  constructor <;> simp

/-- A one-operand operation leaves H to the free flag only where its mask names H. -/
theorem unaryFlags_keeps (op : UnaryOp) (m : Byte) (s : State) :
    CC.Keeps op.flagMask s.cc (unaryFlags op.unary m s).cc := by
  cases op
  case neg => constructor <;> simp [UnaryOp.flagMask, UnaryOp.unary, unaryFlags, Unary.neg]
  case inc => constructor <;> simp [UnaryOp.flagMask, UnaryOp.unary, unaryFlags, Unary.inc]
  case dec => constructor <;> simp [UnaryOp.flagMask, UnaryOp.unary, unaryFlags, Unary.dec]
  case com => constructor <;> simp [UnaryOp.flagMask, UnaryOp.unary, unaryFlags, Unary.com]
  case lsr => constructor <;> simp [UnaryOp.flagMask, UnaryOp.unary, unaryFlags, Unary.lsr]
  case asr => constructor <;> simp [UnaryOp.flagMask, UnaryOp.unary, unaryFlags, Unary.asr]
  case asl => constructor <;> simp [UnaryOp.flagMask, UnaryOp.unary, unaryFlags, Unary.asl]
  case rol => constructor <;> simp [UnaryOp.flagMask, UnaryOp.unary, unaryFlags, Unary.rol]
  case ror => constructor <;> simp [UnaryOp.flagMask, UnaryOp.unary, unaryFlags, Unary.ror]

/-! ### The registers written by name -/

theorem State.regWrite_cc {s : State} {q : Reg} (h : q ≠ .cc) (w : Word) : (s.regWrite q w).cc = s.cc := by
  cases q
  case cc => exact absurd rfl h
  all_goals rfl

theorem transfer_keeps (src dst : BitVec 4) (s : State) :
    CC.Keeps (Op.transfer src dst).flagMask s.cc (transfer src dst s).cc := by
  unfold transfer
  split
  · next r q hpair =>
    by_cases hq : q = .cc
    · simpa [Op.flagMask, hpair, hq] using CC.Keeps.all _ _
    · exact .of_eq (State.regWrite_cc hq _)
  · exact .refl _ _

theorem exchange_keeps (src dst : BitVec 4) (s : State) :
    CC.Keeps (Op.exchange src dst).flagMask s.cc (exchange src dst s).cc := by
  unfold exchange
  split
  · next r q hpair =>
    by_cases hcc : r = .cc ∨ q = .cc
    · simpa [Op.flagMask, hpair, hcc] using CC.Keeps.all _ _
    · obtain ⟨hr, hq⟩ := not_or.mp hcc
      exact .of_eq ((State.regWrite_cc hr _).trans (State.regWrite_cc hq _))
  · exact .refl _ _

theorem pullItem_cc {k : Stack} {i : StackItem} (h : i ≠ .cc) (s : State) : (pullItem k i s).cc = s.cc := by
  cases i
  case cc => exact absurd rfl h
  case other => cases k <;> simp [pullItem]
  all_goals simp [pullItem]

theorem pullItems_cc (k : Stack) {is : List StackItem} (h : .cc ∉ is) (s : State) : (pullItems k is s).cc = s.cc := by
  unfold pullItems
  induction is generalizing s with
  | nil => rfl
  | cons i is ih =>
    obtain ⟨hi, his⟩ := not_or.mp (mt List.mem_cons.mpr h)
    exact (ih his _).trans (pullItem_cc (Ne.symm hi) s)

theorem cc_mem_selected (mask : Byte) : .cc ∈ selected mask pullOrder ↔ mask.getLsbD 0 = true := by
  simp [selected, pullOrder, StackItem.bit]

theorem pullMask_keeps (k : Stack) (mask : Byte) (s : State) :
    CC.Keeps (Op.pullMask k mask).flagMask s.cc (pullMask k mask s).cc := by
  simp only [Op.flagMask]
  split
  · exact .all _ _
  · next hcc => exact .of_eq (pullItems_cc k (mt (cc_mem_selected mask).mp hcc) s)

/-! ### The flags of every operation -/

theorem pushEntire_cc (s : State) : (pushEntire s).cc = { s.cc with e := true } := by
  simp [pushEntire, pushAll]

theorem softInt_keeps (v : Vector) (masks : Bool) (s : State) :
    CC.Keeps (Op.softInt v masks).flagMask s.cc ((Op.softInt v masks).run s).cc := by
  cases masks
  · simpa [Op.run, Op.flagMask, pushEntire_cc] using s.cc.keeps_withE true
  · simpa [Op.run, Op.flagMask, pushEntire_cc] using s.cc.keeps_entry

/-- An operation changes no flag that its mask does not name. -/
theorem run_keeps (o : Op) (s : State) : CC.Keeps o.flagMask s.cc (o.run s).cc := by
  cases o
  case addAcc r c m => simpa [Op.run, Op.flagMask, addAcc] using s.cc.keeps_add8 _ _ _
  case subAcc r c m => simpa [Op.run, Op.flagMask, subAcc, sub8Flags] using s.cc.keeps_sub8 _ _ _ _
  case cmpAcc r m => simpa [Op.run, Op.flagMask, cmpAcc, sub8Flags] using s.cc.keeps_sub8 _ _ _ _
  case logicAcc f r m => simpa [Op.run, Op.flagMask, logicAcc] using s.cc.keeps_move8 _
  case bitTest r m => simpa [Op.run, Op.flagMask, bitTest] using s.cc.keeps_move8 _
  case load8 r m => simpa [Op.run, Op.flagMask, load8] using s.cc.keeps_move8 _
  case addD m => simpa [Op.run, Op.flagMask, addD] using s.cc.keeps_add16 _ _
  case subD m => simpa [Op.run, Op.flagMask, subD] using s.cc.keeps_sub16 _ _
  case cmp16 r m => simpa [Op.run, Op.flagMask, cmp16] using s.cc.keeps_sub16 _ _
  case load16 r m => simpa [Op.run, Op.flagMask, load16] using s.cc.keeps_move16 _
  case unaryAcc op r => simpa [Op.run, Op.flagMask, unaryAcc] using unaryFlags_keeps op _ s
  case testAcc r => exact s.cc.keeps_move8 _
  case clearAcc r => exact s.cc.keeps_clear
  case unaryMem op e =>
    have h := unaryFlags_keeps op (busRead (MemForm.ea e s).2 (MemForm.ea e s).1).1
      (busRead (MemForm.ea e s).2 (MemForm.ea e s).1).2
    simpa [Op.run, Op.flagMask, unaryMem] using h
  case testMem e => simpa [Op.run, Op.flagMask, testMem] using s.cc.keeps_move8 _
  case clearMem e => simpa [Op.run, Op.flagMask, clearMem] using s.cc.keeps_clear
  case store8 r e => simpa [Op.run, Op.flagMask, store8] using s.cc.keeps_move8 _
  case store16 r e => simpa [Op.run, Op.flagMask, store16] using s.cc.keeps_move16 _
  case leaZ r m => simpa [Op.run, Op.flagMask, leaZ] using s.cc.keeps_withZ _
  case lea r m => exact .of_eq (by simp [Op.run, lea])
  case mulAB => exact s.cc.keeps_mul _
  case decimalAdjust => exact s.cc.keeps_daa _ _
  case signExtend => exact s.cc.keeps_sex _ _
  case addBX => exact .refl _ _
  case andCC v => exact .all _ _
  case orCC v => exact .all _ _
  case transfer src dst => exact transfer_keeps src dst s
  case exchange src dst => exact exchange_keeps src dst s
  case branch8 k off => exact .of_eq (by simp only [Op.run, branch8]; split <;> rfl)
  case branch16 k off => exact .of_eq (by simp only [Op.run, branch16]; split <;> rfl)
  case jump16 off => exact .refl _ _
  case jumpEa e => exact .of_eq (by simp [Op.run])
  case call8 off => exact .of_eq (by simp [Op.run, call])
  case call16 off => exact .of_eq (by simp [Op.run, call])
  case callEa e => exact .of_eq (by simp [Op.run, call])
  case pullPc => exact .of_eq (pullItem_cc (by decide) s)
  case skip => exact .refl _ _
  case pushMask k mask => exact .of_eq (by simp [Op.run, pushMask])
  case pullMask k mask => exact pullMask_keeps k mask s
  case softInt v masks => exact softInt_keeps v masks s
  case returnFromInterrupt => exact .all _ _
  case waitCwai v => exact .all _ _
  case waitSync => exact .refl _ _

/-- Settles O15, from the flags of the operation that the instruction is. -/
theorem flagFrame : Obligations.FlagFrame := by
  intro i s t j ht hj
  obtain ⟨-, rfl⟩ := exec_next_iff.mp ht
  exact (run_keeps (opOf i) s).toByte ((flagMask_opOf i).symm ▸ hj)

end Sys2Proof.Machine

/-! PROOFS. The registers that an instruction may write (10_state.md R20, R21). -/

namespace Sys2Proof.Machine

/-- `t` has register `q` of `s`. -/
def State.SameReg (q : Reg) (s t : State) : Prop := t.regRead q = s.regRead q

theorem State.SameReg.refl (q : Reg) (s : State) : s.SameReg q s := rfl

theorem State.SameReg.trans {q : Reg} {s t u : State} (h : s.SameReg q t) (k : t.SameReg q u) : s.SameReg q u :=
  Eq.trans k h

theorem State.SameRegs.sameReg {s t : State} (h : s.SameRegs t) (q : Reg) : s.SameReg q t := by
  cases q <;> simp [State.SameReg, State.regRead, State.d, h.a, h.b, h.x, h.y, h.u, h.sp, h.pc, h.cc, h.dp]

theorem Reg.ne_of_shares {q p : Reg} (h : Reg.shares q p = false) : q ≠ p := by
  rintro rfl
  simp [Reg.shares] at h

/-! ### Writes of one register -/

section
variable {q : Reg}

theorem regWrite_sameReg {p : Reg} (h : Reg.shares q p = false) (s : State) (w : Word) :
    s.SameReg q (s.regWrite p w) := by
  revert h
  cases p <;> cases q <;> simp [Reg.shares, State.SameReg, State.regRead, State.regWrite, State.d, State.setD, State.loadS]

theorem setAcc_sameReg {r : Acc} (h : Reg.shares q r.reg = false) (s : State) (v : Byte) :
    s.SameReg q (s.setAcc r v) := by
  revert h
  cases r <;> cases q <;> simp [Reg.shares, Acc.reg, State.SameReg, State.regRead, State.setAcc, State.d]

theorem loadReg16_sameReg {r : Reg16} (h : Reg.shares q r.reg = false) (s : State) (w : Word) :
    s.SameReg q (s.loadReg16 r w) := by
  have hwrite : s.loadReg16 r w = s.regWrite r.reg w := by cases r <;> rfl
  exact hwrite ▸ regWrite_sameReg h s w

theorem setBase_sameReg {r : IdxReg} (h : q ≠ IdxReg.reg r) (s : State) (w : Word) : s.SameReg q (s.setBase r w) := by
  revert h
  cases r <;> cases q <;> simp [IdxReg.reg, State.SameReg, State.regRead, State.setBase, State.d]

theorem setStackPtr_sameReg {k : Stack} (h : q ≠ k.reg) (s : State) (w : Word) : s.SameReg q (s.setStackPtr k w) := by
  revert h
  cases k <;> cases q <;> simp [Stack.reg, State.SameReg, State.regRead, State.setStackPtr, State.d]

theorem withCC_sameReg (h : q ≠ .cc) (s : State) (f : CC) : s.SameReg q { s with cc := f } := by
  cases q
  case cc => exact absurd rfl h
  all_goals rfl

theorem withDp_sameReg (h : q ≠ .dp) (s : State) (v : Byte) : s.SameReg q { s with dp := v } := by
  cases q
  case dp => exact absurd rfl h
  all_goals rfl

theorem jump_sameReg (h : q ≠ .pc) (s : State) (a : Addr) : s.SameReg q (s.jump a) := by
  cases q
  case pc => exact absurd rfl h
  all_goals rfl

theorem addBusy_sameReg (q : Reg) (s : State) (n : Nat) : s.SameReg q (s.addBusy n) := by
  cases q <;> rfl

theorem withWait_sameReg (q : Reg) (s : State) (w : WaitState) : s.SameReg q { s with wait := w } := by
  cases q <;> rfl

theorem raise_sameReg (q : Reg) (s : State) (k : FaultKind) (w : Word) (a : Addr) : s.SameReg q (s.raise k w a) := by
  cases q <;> rfl

/-! ### Flags -/

theorem sub8Flags_sameReg (h : q ≠ .cc) (a m : Byte) (c : Bool) (s : State) : s.SameReg q (sub8Flags a m c s) := by
  cases q
  case cc => exact absurd rfl h
  all_goals rfl

theorem unaryFlags_sameReg (h : q ≠ .cc) (op : Unary) (m : Byte) (s : State) : s.SameReg q (unaryFlags op m s) := by
  unfold unaryFlags
  split
  · cases q
    case cc => exact absurd rfl h
    all_goals rfl
  · exact withCC_sameReg h s _

theorem decimalAdjust_sameReg (ha : Reg.shares q .a = false) (hcc : q ≠ .cc) (s : State) :
    s.SameReg q (decimalAdjust s) := by
  revert ha hcc
  cases q <;> simp [Reg.shares, State.SameReg, State.regRead, State.d, decimalAdjust]

theorem signExtend_sameReg (ha : Reg.shares q .a = false) (hcc : q ≠ .cc) (s : State) :
    s.SameReg q (signExtend s) := by
  revert ha hcc
  cases q <;> simp [Reg.shares, State.SameReg, State.regRead, State.d, signExtend]

/-! ### Operands -/

theorem indirect_sameReg {s : State} {p : Addr × State} (h : s.SameReg q p.2) (ind : Bool) :
    s.SameReg q (indirect ind p).2 := by
  cases ind
  · exact h
  · exact (h.trans ((read16_sameRegs _ _).sameReg q)).trans (addBusy_sameReg q _ 3)

theorem idxModeEa_sameReg {m : IdxMode} {r : IdxReg} (h : m = .postInc2 ∨ m = .preDec2 → q ≠ IdxReg.reg r) (s : State) :
    s.SameReg q (IdxMode.ea m r s).2 := by
  cases m
  case postInc2 => exact (setBase_sameReg (h (.inl rfl)) s _).trans (addBusy_sameReg q _ _)
  case preDec2 => exact (setBase_sameReg (h (.inr rfl)) s _).trans (addBusy_sameReg q _ _)
  case zero => exact .refl q s
  all_goals exact addBusy_sameReg q s _

/-- An indexed operand updates its base register or none (40_addressing_modes.md R182, R184 to R190). -/
theorem indexedEa_sameReg {m : Indexed} (h : ∀ r, Indexed.autoReg m = some r → q ≠ IdxReg.reg r) (s : State) :
    s.SameReg q (Indexed.ea m s).2 := by
  cases m
  case off5 r n => exact addBusy_sameReg q s _
  case postInc1 r => exact (setBase_sameReg (h r rfl) s _).trans (addBusy_sameReg q _ _)
  case preDec1 r => exact (setBase_sameReg (h r rfl) s _).trans (addBusy_sameReg q _ _)
  case reg r ind m =>
    refine indirect_sameReg (idxModeEa_sameReg (fun hm => h r ?_) s) ind
    rcases hm with rfl | rfl <;> rfl
  case pcr8 r ind n => exact indirect_sameReg (p := (s.pc + sext8 n, s.addBusy 1)) (addBusy_sameReg q s 1) ind
  case pcr16 r ind n => exact indirect_sameReg (p := (s.pc + n, s.addBusy 5)) (addBusy_sameReg q s 5) ind
  case extInd a => exact indirect_sameReg (p := (a, s.addBusy 2)) (addBusy_sameReg q s 2) true

theorem memEa_sameReg {e : MemForm} (h : ∀ r, MemForm.autoReg e = some r → q ≠ IdxReg.reg r) (s : State) :
    s.SameReg q (MemForm.ea e s).2 := by
  cases e
  case idx m => exact indexedEa_sameReg h s
  all_goals exact .refl q s

theorem src8_sameReg {m : Src8} (h : ∀ r, Src8.autoReg m = some r → q ≠ IdxReg.reg r) (s : State) :
    s.SameReg q (Src8.read m s).2 := by
  cases m
  case imm => exact .refl q s
  case mem e => exact (memEa_sameReg h s).trans ((busRead_sameRegs _ _).sameReg q)

theorem src16_sameReg {m : Src16} (h : ∀ r, Src16.autoReg m = some r → q ≠ IdxReg.reg r) (s : State) :
    s.SameReg q (Src16.read m s).2 := by
  cases m
  case imm => exact .refl q s
  case mem e => exact (memEa_sameReg h s).trans ((read16_sameRegs _ _).sameReg q)

/-! ### The stacks -/

theorem push8_sameReg {k : Stack} (h : q ≠ k.reg) (v : Byte) (s : State) : s.SameReg q (push8 k v s) :=
  (setStackPtr_sameReg h s _).trans ((busWrite_sameRegs _ _ _).sameReg q)

theorem push16_sameReg {k : Stack} (h : q ≠ k.reg) (w : Word) (s : State) : s.SameReg q (push16 k w s) :=
  (push8_sameReg h _ s).trans (push8_sameReg h _ _)

theorem pushItem_sameReg {k : Stack} (h : q ≠ k.reg) (i : StackItem) (s : State) : s.SameReg q (pushItem k i s) := by
  cases i
  case pc => exact push16_sameReg h _ s
  case other => cases k <;> exact push16_sameReg h _ s
  case y => exact push16_sameReg h _ s
  case x => exact push16_sameReg h _ s
  all_goals exact push8_sameReg h _ s

theorem pushItems_sameReg {k : Stack} (h : q ≠ k.reg) (is : List StackItem) (s : State) :
    s.SameReg q (pushItems k is s) := by
  unfold pushItems
  induction is generalizing s with
  | nil => exact .refl q s
  | cons i is ih => exact (pushItem_sameReg h i s).trans (ih _)

theorem pull8_sameReg {k : Stack} (h : q ≠ k.reg) (s : State) : s.SameReg q (pull8 k s).2 :=
  ((busRead_sameRegs s _).sameReg q).trans (setStackPtr_sameReg h _ _)

theorem pull16_sameReg {k : Stack} (h : q ≠ k.reg) (s : State) : s.SameReg q (pull16 k s).2 :=
  (pull8_sameReg h s).trans (pull8_sameReg h _)

/-- Pulling a register is reading the stack, then writing the register. -/
theorem pullItem_sameReg {k : Stack} (h : q ≠ k.reg) {i : StackItem} (hi : Reg.shares q (i.reg k) = false) (s : State) :
    s.SameReg q (pullItem k i s) := by
  cases i
  case other =>
    cases k
    · exact (pull16_sameReg h s).trans (regWrite_sameReg hi _ _)
    · exact (pull16_sameReg h s).trans (regWrite_sameReg hi _ _)
  case pc => exact (pull16_sameReg h s).trans (regWrite_sameReg hi _ _)
  case y => exact (pull16_sameReg h s).trans (regWrite_sameReg hi _ _)
  case x => exact (pull16_sameReg h s).trans (regWrite_sameReg hi _ _)
  case dp => exact (pull8_sameReg h s).trans (withDp_sameReg (Reg.ne_of_shares hi) _ _)
  case b => exact (pull8_sameReg h s).trans (setAcc_sameReg (r := .b) hi _ _)
  case a => exact (pull8_sameReg h s).trans (setAcc_sameReg (r := .a) hi _ _)
  case cc => exact (pull8_sameReg h s).trans (withCC_sameReg (Reg.ne_of_shares hi) _ _)

theorem pullItems_sameReg {k : Stack} (h : q ≠ k.reg) {is : List StackItem}
    (his : ∀ i ∈ is, Reg.shares q (i.reg k) = false) (s : State) : s.SameReg q (pullItems k is s) := by
  unfold pullItems
  induction is generalizing s with
  | nil => exact .refl q s
  | cons i is ih =>
    obtain ⟨hi, his⟩ := List.forall_mem_cons.mp his
    exact (pullItem_sameReg h hi s).trans (ih his _)

theorem setE_sameReg (h : q ≠ .cc) (s : State) (v : Bool) : s.SameReg q (s.setE v) := withCC_sameReg h s _

theorem andCC_sameReg (h : q ≠ .cc) (s : State) (v : Byte) : s.SameReg q (s.andCC v) := withCC_sameReg h s _

theorem maskInterrupts_sameReg (h : q ≠ .cc) (s : State) : s.SameReg q s.maskInterrupts := withCC_sameReg h s _

theorem pushEntire_sameReg (hs : q ≠ .s) (hcc : q ≠ .cc) (s : State) : s.SameReg q (pushEntire s) :=
  (setE_sameReg hcc s true).trans (pushItems_sameReg (k := .s) hs pushOrder _)

theorem jumpVector_sameReg (h : q ≠ .pc) (v : Vector) (s : State) : s.SameReg q (jumpVector v s) :=
  ((read16_sameRegs s v.addr).sameReg q).trans (jump_sameReg h _ _)

theorem call_sameReg (hs : q ≠ .s) (hpc : q ≠ .pc) (a : Addr) (s : State) : s.SameReg q (call a s) :=
  (push16_sameReg (k := .s) hs _ s).trans (jump_sameReg hpc _ a)

theorem transfer_sameReg {src dst : BitVec 4} (h : ∀ p ∈ (Op.transfer src dst).destinations, Reg.shares q p = false)
    (s : State) : s.SameReg q (transfer src dst s) := by
  unfold transfer
  split
  · next r p hpair => exact regWrite_sameReg (h p (by simp [Op.destinations, hpair])) s _
  · exact raise_sameReg q s _ _ _

theorem exchange_sameReg {src dst : BitVec 4} (h : ∀ p ∈ (Op.exchange src dst).destinations, Reg.shares q p = false)
    (s : State) : s.SameReg q (exchange src dst s) := by
  unfold exchange
  split
  · next r p hpair =>
    have hr := h r (by simp [Op.destinations, hpair])
    have hp := h p (by simp [Op.destinations, hpair])
    exact (regWrite_sameReg hp s _).trans (regWrite_sameReg hr _ _)
  · exact raise_sameReg q s _ _ _

theorem returnFromInterrupt_sameReg (hd : ∀ p ∈ Op.returnFromInterrupt.destinations, Reg.shares q p = false)
    (hcc : q ≠ .cc) (hpc : q ≠ .pc) (s : State) : s.SameReg q (returnFromInterrupt s) := by
  have hs : q ≠ Stack.reg .s := Reg.ne_of_shares (hd .s (by decide))
  have pullCC := (pull8_sameReg hs s).trans (withCC_sameReg hcc _ (CC.ofByte (pull8 .s s).1))
  have pullPc (t : State) : t.SameReg q (pullItem .s .pc t) := (pull16_sameReg hs t).trans (jump_sameReg hpc _ _)
  have hitems : ∀ i ∈ rtiItems, Reg.shares q (i.reg .s) = false := by
    intro i hi
    refine hd _ ?_
    revert i
    decide
  unfold returnFromInterrupt
  dsimp only
  split
  · exact ((pullCC.trans (pullItems_sameReg hs hitems _)).trans (addBusy_sameReg q _ 9)).trans (pullPc _)
  · exact pullCC.trans (pullPc _)

theorem pullMask_sameReg {k : Stack} {mask : Byte} (hd : ∀ p ∈ (Op.pullMask k mask).destinations, Reg.shares q p = false)
    (s : State) : s.SameReg q (pullMask k mask s) := by
  obtain ⟨hk, hitems⟩ := List.forall_mem_cons.mp hd
  exact (pullItems_sameReg (Reg.ne_of_shares hk) (fun i hi => hitems _ (List.mem_map_of_mem hi)) s).trans
    (addBusy_sameReg q _ _)

/-- A branch that is taken writes PC; BRN and LBRN are never taken (44_branch_jump.md R370, R388). -/
theorem ne_pc_of_holds {k : Cond} {f : CC} (hpc : q = .pc → (k != .never) = false) (hk : k.holds f = true) : q ≠ .pc := by
  intro hq
  obtain rfl : k = .never := by simpa using hpc hq
  cases hk

theorem branch8_sameReg {k : Cond} (hpc : q = .pc → (k != .never) = false) (off : Byte) (s : State) :
    s.SameReg q (branch8 k off s) := by
  unfold branch8
  split
  · next hk => exact jump_sameReg (ne_pc_of_holds hpc hk) s _
  · exact .refl q s

theorem branch16_sameReg {k : Cond} (hpc : q = .pc → (k != .never) = false) (off : Word) (s : State) :
    s.SameReg q (branch16 k off s) := by
  unfold branch16
  split
  · next hk => exact (addBusy_sameReg q s 1).trans (jump_sameReg (ne_pc_of_holds hpc hk) _ _)
  · exact .refl q s

theorem softInt_sameReg (hs : q ≠ .s) (hcc : q ≠ .cc) (hpc : q ≠ .pc) (v : Vector) (masks : Bool) (s : State) :
    s.SameReg q ((Op.softInt v masks).run s) := by
  have push := pushEntire_sameReg hs hcc s
  cases masks
  · exact push.trans (jumpVector_sameReg hpc v _)
  · exact (push.trans (maskInterrupts_sameReg hcc _)).trans (jumpVector_sameReg hpc v _)

/-! ### Every operation -/

/-- An operation changes no register but its destinations, the base register its operand updates, CC, and PC where it may
jump. -/
theorem run_sameReg {o : Op} (hd : ∀ p ∈ o.destinations, Reg.shares q p = false)
    (ha : ∀ r, o.autoReg = some r → q ≠ IdxReg.reg r) (hcc : q ≠ .cc) (hpc : q = .pc → o.writesPc = false) (s : State) :
    s.SameReg q (o.run s) := by
  have hdest {p : Reg} (h : o.destinations = [p]) : Reg.shares q p = false := hd p (by simp [h])
  have hjump (h : o.writesPc = true) : q ≠ .pc := fun hq => by simp [hpc hq] at h
  cases o
  case addAcc r c m => exact ((src8_sameReg ha s).trans (setAcc_sameReg (hdest rfl) _ _)).trans (withCC_sameReg hcc _ _)
  case subAcc r c m =>
    exact ((src8_sameReg ha s).trans (sub8Flags_sameReg hcc _ _ _ _)).trans (setAcc_sameReg (hdest rfl) _ _)
  case cmpAcc r m => exact (src8_sameReg ha s).trans (sub8Flags_sameReg hcc _ _ _ _)
  case logicAcc f r m => exact ((src8_sameReg ha s).trans (setAcc_sameReg (hdest rfl) _ _)).trans (withCC_sameReg hcc _ _)
  case bitTest r m => exact (src8_sameReg ha s).trans (withCC_sameReg hcc _ _)
  case load8 r m => exact ((src8_sameReg ha s).trans (setAcc_sameReg (hdest rfl) _ _)).trans (withCC_sameReg hcc _ _)
  case addD m =>
    exact ((src16_sameReg ha s).trans (regWrite_sameReg (hdest rfl) _ _)).trans (withCC_sameReg hcc _ _)
  case subD m =>
    exact ((src16_sameReg ha s).trans (regWrite_sameReg (hdest rfl) _ _)).trans (withCC_sameReg hcc _ _)
  case cmp16 r m => exact (src16_sameReg ha s).trans (withCC_sameReg hcc _ _)
  case load16 r m =>
    exact ((src16_sameReg ha s).trans (loadReg16_sameReg (hdest rfl) _ _)).trans (withCC_sameReg hcc _ _)
  case unaryAcc op r => exact (unaryFlags_sameReg hcc _ _ s).trans (setAcc_sameReg (hdest rfl) _ _)
  case testAcc r => exact withCC_sameReg hcc s _
  case clearAcc r => exact (setAcc_sameReg (hdest rfl) s _).trans (withCC_sameReg hcc _ _)
  case unaryMem op e =>
    have h := (memEa_sameReg ha s).trans ((busRead_sameRegs _ (MemForm.ea e s).1).sameReg q)
    exact (h.trans (unaryFlags_sameReg hcc _ _ _)).trans ((busWrite_sameRegs _ _ _).sameReg q)
  case testMem e =>
    exact ((memEa_sameReg ha s).trans ((busRead_sameRegs _ _).sameReg q)).trans (withCC_sameReg hcc _ _)
  case clearMem e =>
    exact ((memEa_sameReg ha s).trans ((busWrite_sameRegs _ _ _).sameReg q)).trans (withCC_sameReg hcc _ _)
  case store8 r e =>
    exact ((memEa_sameReg ha s).trans ((busWrite_sameRegs _ _ _).sameReg q)).trans (withCC_sameReg hcc _ _)
  case store16 r e =>
    exact ((memEa_sameReg ha s).trans ((write16_sameRegs _ _ _).sameReg q)).trans (withCC_sameReg hcc _ _)
  case leaZ r m =>
    exact ((indexedEa_sameReg ha s).trans (loadReg16_sameReg (hdest rfl) _ _)).trans (withCC_sameReg hcc _ _)
  case lea r m => exact (indexedEa_sameReg ha s).trans (loadReg16_sameReg (hdest rfl) _ _)
  case mulAB => exact (regWrite_sameReg (hdest rfl) s _).trans (withCC_sameReg hcc _ _)
  case decimalAdjust => exact decimalAdjust_sameReg (hdest rfl) hcc s
  case signExtend => exact signExtend_sameReg (hdest rfl) hcc s
  case addBX => exact regWrite_sameReg (hdest rfl) s _
  case andCC v => exact withCC_sameReg hcc s _
  case orCC v => exact withCC_sameReg hcc s _
  case transfer src dst => exact transfer_sameReg hd s
  case exchange src dst => exact exchange_sameReg hd s
  case branch8 k off => exact branch8_sameReg hpc off s
  case branch16 k off => exact branch16_sameReg hpc off s
  case jump16 off => exact jump_sameReg (hjump rfl) s _
  case jumpEa e => exact (memEa_sameReg ha s).trans (jump_sameReg (hjump rfl) _ _)
  case call8 off => exact call_sameReg (Reg.ne_of_shares (hdest rfl)) (hjump rfl) _ s
  case call16 off => exact call_sameReg (Reg.ne_of_shares (hdest rfl)) (hjump rfl) _ s
  case callEa e => exact (memEa_sameReg ha s).trans (call_sameReg (Reg.ne_of_shares (hdest rfl)) (hjump rfl) _ _)
  case pullPc =>
    exact (pull16_sameReg (k := .s) (Reg.ne_of_shares (hdest rfl)) s).trans (jump_sameReg (hjump rfl) _ _)
  case skip => exact .refl q s
  case pushMask k mask =>
    exact (pushItems_sameReg (Reg.ne_of_shares (hdest rfl)) _ s).trans (addBusy_sameReg q _ _)
  case pullMask k mask => exact pullMask_sameReg hd s
  case softInt v masks => exact softInt_sameReg (Reg.ne_of_shares (hdest rfl)) hcc (hjump rfl) v masks s
  case returnFromInterrupt => exact returnFromInterrupt_sameReg hd hcc (hjump rfl) s
  case waitCwai v =>
    exact ((andCC_sameReg hcc s v).trans (pushEntire_sameReg (Reg.ne_of_shares (hdest rfl)) hcc _)).trans
      (withWait_sameReg q _ _)
  case waitSync => exact withWait_sameReg q s _

end

/-- Settles O14: CC by the flags of the operation that the instruction is, any other register by its writes. -/
theorem registerFrame : Obligations.RegisterFrame := by
  intro i s t q ht hd ha hcc hpc
  obtain ⟨-, rfl⟩ := exec_next_iff.mp ht
  rw [← destinations_opOf] at hd
  rw [← autoReg_opOf] at ha
  rw [← flagMask_opOf] at hcc
  rw [← writesPc_opOf] at hpc
  by_cases hq : q = .cc
  · have hkeeps := run_keeps (opOf i) s
    rw [hcc hq] at hkeeps
    rw [hq, State.regRead, State.regRead, hkeeps.eq]
  · exact run_sameReg hd ha hq hpc s

end Sys2Proof.Machine

/-! PROOFS. The bank windows and the bytes of the bus: where an offset leads, what a write reads back, and which writes are
dropped (20_memory.md R81 to R83, R94 to R98). -/

namespace Sys2Proof.Machine

/-! ### The way through a window (20_memory.md R94) -/

/-- Walking `next` `k` times leads to place `k` of the chain, or past its end. -/
theorem walkNext_eq_chainFrom_getElem? (m : Mmu) {k bound : Nat} {i : Word} (hi : i ≠ noNode) (hk : k < bound) :
    walkNext m k i = (chainFrom m bound i)[k]? := by
  induction k generalizing i bound with
  | zero =>
    obtain ⟨b, rfl⟩ := Nat.exists_eq_succ_of_ne_zero hk.ne'
    simp [walkNext, chainFrom, hi]
  | succ k ih =>
    obtain ⟨b, rfl⟩ := Nat.exists_eq_succ_of_ne_zero (Nat.ne_zero_of_lt hk)
    simp only [walkNext, chainFrom, if_neg hi, List.getElem?_cons_succ]
    split
    · next hn => rw [hn, chainFrom_noNode, List.getElem?_nil]
    · next hn => exact ih hn (by omega)

/-- A window has fewer places than the pool has nodes, so the bound on a chain's length cuts no walk (log 15). -/
theorem windowPlace_lt_nodes {o : Nat} (ho : o < windowBytes) : o / nodeBytes < nodes := by
  unfold windowBytes at ho
  unfold nodeBytes nodes
  omega

theorem walkNext_eq_chainOf_getElem? (m : Mmu) {h : Word} (hh : h ≠ noNode) {o : Nat} (ho : o < windowBytes) :
    walkNext m (o / nodeBytes) h = (m.chainOf h)[o / 32]? :=
  walkNext_eq_chainFrom_getElem? m hh (windowPlace_lt_nodes ho)

theorem busWrite_of_bankError {s : State} {a : Addr} {k : Window} {o : Nat} (hl : s.locate a = some (.bankWin k, o))
    (he : bankLocate s.mmu k o = .bankError) (v : Byte) : busWrite s a v = s.bankFail := by
  simp only [busWrite, hl, bankWrite, he]

theorem busRead_of_bankError {s : State} {a : Addr} {k : Window} {o : Nat} (hl : s.locate a = some (.bankWin k, o))
    (he : bankLocate s.mmu k o = .bankError) : busRead s a = s.bankFail.drawByte := by
  simp only [busRead, hl, bankRead, he]

/-- Settles O50: a walk along `next` is a place in the chain, and a failing access is `bankFail`. -/
theorem bankTranslation : Obligations.BankTranslation := by
  refine ⟨fun m k o ho => ?_, fun s a v k o hl he => ⟨busWrite_of_bankError hl he v, s.draws + 1, ?_⟩⟩
  · unfold bankLocate
    split
    · rfl
    · next hsel =>
      split
      · rfl
      · rw [walkNext_eq_chainOf_getElem? m hsel ho]
        cases (m.chainOf (m.bankSel k))[o / 32]? <;> rfl
  · rw [busRead_of_bankError hl he]
    rfl

/-! ### What a write leaves of the way -/

/-- The way depends on the bank selects and on the nodes' status and links, not on their payloads. -/
theorem bankLocate_congr {m m' : Mmu} (k : Window) (hsel : m'.bankSel k = m.bankSel k)
    (hstatus : ∀ i, (m'.node i).status = (m.node i).status) (hroot : ∀ i, (m'.node i).root = (m.node i).root)
    (hnext : ∀ i, (m'.node i).next = (m.node i).next) (o : Nat) : bankLocate m' k o = bankLocate m k o := by
  have hwalk (j : Nat) (i : Word) : walkNext m' j i = walkNext m j i := by
    induction j generalizing i with
    | zero => rfl
    | succ j ih => simp only [walkNext, hnext, ih]
  have hvalid (h : Word) : m'.validHandle h = m.validHandle h := by
    rw [Mmu.validHandle, Mmu.validHandle, Node.allocated, Node.allocated, hstatus, hroot]
  simp only [bankLocate, hsel, hvalid, hwalk]

theorem Mmu.node_setData (m : Mmu) (i j : Word) (p : Nat) (v : Byte) : (m.setData i p v).node j =
    { m.node j with
      data := if j = i ∧ i.toNat < nodes then Memory.write (m.node j).data p v else (m.node j).data } := by
  rw [Mmu.setData, Mmu.node_setNode]
  split
  · next h => rw [h.1]
  · rfl

@[simp] theorem Mmu.bankSel_setData (m : Mmu) (i : Word) (p : Nat) (v : Byte) (k : Window) :
    (m.setData i p v).bankSel k = m.bankSel k := by
  cases k <;> simp [Mmu.bankSel, Mmu.setData]

theorem bankLocate_setData (m : Mmu) (i : Word) (p : Nat) (v : Byte) (k : Window) (o : Nat) :
    bankLocate (m.setData i p v) k o = bankLocate m k o :=
  bankLocate_congr k (m.bankSel_setData i p v k) (fun j => by rw [Mmu.node_setData]) (fun j => by rw [Mmu.node_setData])
    (fun j => by rw [Mmu.node_setData]) o

/-- A payload byte reads back where the node is one of the pool's. -/
theorem Mmu.read_setData_same (m : Mmu) {i : Word} (hi : i.toNat < nodes) (p : Nat) (v : Byte) :
    Memory.read ((m.setData i p v).node i).data p = v := by
  simp [Mmu.node_setData, hi]

theorem Mmu.payloadWritable_inPool {m : Mmu} {n : Word} (h : m.payloadWritable n = true) : n.toNat < nodes := by
  simp only [Mmu.payloadWritable, Bool.and_eq_true, decide_eq_true_eq] at h
  exact h.1.1.1

/-! ### A write, read back -/

/-- Writing byte `j` of a word and reading it back (10_state.md R61). -/
@[simp] theorem wordByte_setWordByte (w : Word) (j : Nat) (v : Byte) : wordByte (setWordByte w j v) j = v := by
  unfold wordByte setWordByte
  split <;> simp

section
variable {s : State} {a : Addr} {v : Byte}

theorem peek_of_ramBacked {k : Window} {o : Nat} (hl : s.locate a = some (.bankWin k, o))
    (hb : bankLocate s.mmu k o = .ramBacked) : s.peek a = some (Memory.read (s.bankRam k) o) := by
  simp only [State.peek, hl, hb]

theorem peek_of_node {k : Window} {o : Nat} {n : Word} (hl : s.locate a = some (.bankWin k, o))
    (hb : bankLocate s.mmu k o = .node n) : s.peek a = some (Memory.read (s.mmu.node n).data (o % nodeBytes)) := by
  simp only [State.peek, hl, hb]

theorem peek_of_register {o : Nat} {r : MmuReg} {j : Nat} (hl : s.locate a = some (.mmuReg, o))
    (hr : mmuRegAt s.cfg o = some (r, j)) : s.peek a = s.mmu.regByte r j := by
  simp only [State.peek, hl, hr]

theorem busWrite_of_window {k : Window} {o : Nat} (hl : s.locate a = some (.bankWin k, o)) :
    busWrite s a v = bankWrite s k o v := by
  simp only [busWrite, hl]

/-- A byte written to an unmapped window reads back from the backing array (20_memory.md R96). -/
theorem peek_busWrite_ramBacked {k : Window} {o : Nat} (hl : s.locate a = some (.bankWin k, o))
    (hb : bankLocate s.mmu k o = .ramBacked) : (busWrite s a v).peek a = some v := by
  have hw : busWrite s a v = s.setBankRam k (Memory.write (s.bankRam k) o v) := by
    rw [busWrite_of_window hl, bankWrite, hb]
  rw [hw, peek_of_ramBacked ((locate_congr (by simp) a).trans hl) (by simpa using hb)]
  cases k <;> simp [State.setBankRam, State.bankRam]

/-- A byte written to a node that is not sealed reads back through the same way (20_memory.md R96, R98). -/
theorem peek_busWrite_node {k : Window} {o : Nat} {n : Word} (hl : s.locate a = some (.bankWin k, o))
    (hb : bankLocate s.mmu k o = .node n) (hp : s.mmu.payloadWritable n = true) :
    (busWrite s a v).peek a = some v := by
  have hw : busWrite s a v = { s with mmu := s.mmu.setData n (o % nodeBytes) v } := by
    rw [busWrite_of_window hl, bankWrite, hb]
    exact if_pos hp
  have hb' : bankLocate (s.mmu.setData n (o % nodeBytes) v) k o = .node n := (bankLocate_setData ..).trans hb
  rw [hw, peek_of_node (s := { s with mmu := s.mmu.setData n (o % nodeBytes) v }) hl hb']
  exact congrArg some (s.mmu.read_setData_same (Mmu.payloadWritable_inPool hp) _ v)

theorem busWrite_sealed {k : Window} {o : Nat} {n : Word} (hl : s.locate a = some (.bankWin k, o))
    (hb : bankLocate s.mmu k o = .node n) (hp : s.mmu.payloadWritable n = false) : busWrite s a v = s := by
  rw [busWrite_of_window hl, bankWrite, hb]
  simp [hp]

/-- A write of an MMU register other than COMMAND (10_state.md R61 to R63, R65 to R68). -/
theorem busWrite_of_register {o : Nat} {r : MmuReg} {j : Nat} (hl : s.locate a = some (.mmuReg, o))
    (hr : mmuRegAt s.cfg o = some (r, j)) (hc : r ≠ .command) :
    busWrite s a v = { s with mmu := s.mmu.setRegByte r j v } := by
  simp only [busWrite, hl, mmuRegWrite, hr, if_neg hc]

theorem peek_busWrite_register {o : Nat} {r : MmuReg} {j : Nat} (hl : s.locate a = some (.mmuReg, o))
    (hr : mmuRegAt s.cfg o = some (r, j)) (hc : r ≠ .command) :
    (busWrite s a v).peek a = (s.mmu.setRegByte r j v).regByte r j := by
  rw [busWrite_of_register hl hr hc]
  exact peek_of_register (s := { s with mmu := s.mmu.setRegByte r j v }) hl hr

end

/-- The bank selects, the arguments and the cursor read back what was written (10_state.md R61, R63, R68). -/
theorem Mmu.regByte_setRegByte (m : Mmu) {r : MmuReg}
    (hr : r ∈ [MmuReg.bank1Select, .bank2Select, .arg1, .arg2, .rawIndex]) (j : Nat) (v : Byte) :
    (m.setRegByte r j v).regByte r j = some v := by
  simp only [List.mem_cons, List.not_mem_nil, or_false] at hr
  rcases hr with rfl | rfl | rfl | rfl | rfl <;> simp [Mmu.setRegByte, Mmu.regByte]

/-- META_DATA reads back what was written where the cursor's node is writable (10_state.md R66). -/
theorem Mmu.regByte_setRegByte_metaData (m : Mmu) (hp : m.payloadWritable m.rawIndex = true) (j : Nat) (v : Byte) :
    (m.setRegByte .metaData j v).regByte .metaData j = some v := by
  have hi := Mmu.payloadWritable_inPool hp
  have hcursor : (m.setData m.rawIndex j v).rawIndex = m.rawIndex := by simp [Mmu.setData]
  simp [Mmu.setRegByte, Mmu.regByte, hp, hcursor, hi, m.read_setData_same hi]

/-- The counters, ERROR and the links are read-only (10_state.md R62, R65, R67). -/
theorem Mmu.setRegByte_readOnly (m : Mmu) {r : MmuReg}
    (hr : r ∈ [MmuReg.blocksFree, .blocksAllocated, .blocksFragged, .error, .metaRoot, .metaPrev, .metaNext])
    (j : Nat) (v : Byte) : m.setRegByte r j v = m := by
  simp only [List.mem_cons, List.not_mem_nil, or_false] at hr
  rcases hr with rfl | rfl | rfl | rfl | rfl | rfl | rfl <;> rfl

theorem inRam_iff {s : State} {a : Addr} : s.inRam a = true ↔ ∃ o, s.locate a = some (.ram, o) := by
  unfold State.inRam
  cases s.locate a with
  | none => simp
  | some p => obtain ⟨k, o⟩ := p; simp

/-- Settles O49, region by region. -/
theorem writeReadsBack : Obligations.WriteReadsBack := by
  intro s a v
  refine ⟨fun hram => ?ram, fun k o hl => ⟨peek_busWrite_ramBacked hl, fun n hb => ?node⟩,
    fun o r j hl hr => ⟨fun hmem => ?register, ?metaData, fun hmem => ?readOnly⟩, fun o hl => ?rom, fun hl => ?unmapped⟩
  case ram =>
    obtain ⟨o, hl⟩ := inRam_iff.mp hram
    exact ⟨by rw [peek_busWrite_ram hl, if_pos rfl], fun b hb => by rw [peek_busWrite_ram hl, if_neg hb]⟩
  case node =>
    split
    · next hp => exact peek_busWrite_node hl hb hp
    · next hp => exact busWrite_sealed hl hb (Bool.eq_false_of_not_eq_true hp)
  case register =>
    have hc : r ≠ .command := by rintro rfl; simp at hmem
    rw [peek_busWrite_register hl hr hc, Mmu.regByte_setRegByte _ hmem]
  case metaData =>
    rintro rfl
    split
    · next hp => rw [peek_busWrite_register hl hr (by decide), Mmu.regByte_setRegByte_metaData _ hp]
    · next hp =>
      rw [busWrite_of_register hl hr (by decide)]
      simp [Mmu.setRegByte, hp]
  case readOnly =>
    have hc : r ≠ .command := by rintro rfl; simp at hmem
    rw [busWrite_of_register hl hr hc, Mmu.setRegByte_readOnly _ hmem]
  case rom => simp only [busWrite, hl]
  case unmapped => simp [busWrite, busRead, hl, unmappedRead]

end Sys2Proof.Machine

/-! PROOFS. What an instruction does to memory: the reads and writes it is made of, at the addresses it stores to
(20_memory.md R82, R89, R91). -/

namespace Sys2Proof.Machine

/-! ### Runs of bus accesses -/

/-- `t` has the configuration and the memory of `s`: only registers, free values and latches differ. -/
structure State.SameMemory (s t : State) : Prop where
  cfg : t.cfg = s.cfg
  mmu : t.mmu = s.mmu
  ram : t.ram = s.ram
  rom : t.rom = s.rom
  bankRam1 : t.bankRam1 = s.bankRam1
  bankRam2 : t.bankRam2 = s.bankRam2

/-- `t` comes from `s` by bus reads anywhere and bus writes at addresses of `W`, with any change of registers between them
(20_memory.md R89). -/
inductive State.Accesses (W : Addr → Prop) : State → State → Prop
  | idle {s t : State} : s.SameMemory t → State.Accesses W s t
  | read (s : State) (a : Addr) : State.Accesses W s (busRead s a).2
  | write (s : State) {a : Addr} (v : Byte) : W a → State.Accesses W s (busWrite s a v)
  | trans {s t u : State} : State.Accesses W s t → State.Accesses W t u → State.Accesses W s u

section
variable {W : Addr → Prop} {s t : State}

theorem State.Accesses.refl (s : State) : State.Accesses W s s := .idle ⟨rfl, rfl, rfl, rfl, rfl, rfl⟩

/-- A change of registers after the accesses. -/
theorem State.Accesses.andThen {u : State} (h : s.Accesses W t) (k : t.SameMemory u) : s.Accesses W u := h.trans (.idle k)

theorem State.Accesses.mono {W' : Addr → Prop} (h : s.Accesses W t) (hW : ∀ a, W a → W' a) : s.Accesses W' t := by
  induction h with
  | idle h => exact .idle h
  | read s a => exact .read s a
  | write s v ha => exact .write s v (hW _ ha)
  | trans _ _ ih ih' => exact ih.trans ih'

/-! ### What accesses leave unchanged -/

/-- What registers do not hold, no read changes and no write to `W` changes, is as before. -/
theorem State.Accesses.eq_of_kept {β : Type} {f : State → β} (h : s.Accesses W t)
    (hidle : ∀ {s t : State}, s.SameMemory t → f t = f s) (hread : ∀ s a, f (busRead s a).2 = f s)
    (hwrite : ∀ s a v, W a → f (busWrite s a v) = f s) : f t = f s := by
  induction h with
  | idle h => exact hidle h
  | read s a => exact hread s a
  | write s v ha => exact hwrite s _ v ha
  | trans _ _ ih ih' => exact ih'.trans ih

theorem State.Accesses.cfg (h : s.Accesses W t) : t.cfg = s.cfg :=
  h.eq_of_kept (·.cfg) busRead_cfg fun s a v _ => busWrite_cfg s a v

/-- No access writes a ROM (20_memory.md R82, R83). -/
theorem State.Accesses.rom (h : s.Accesses W t) : t.rom = s.rom :=
  h.eq_of_kept (·.rom) busRead_rom fun s a v _ => busWrite_rom s a v

/-- A write changes RAM at its own address or nowhere (20_memory.md R82). -/
theorem read_ram_busWrite_other (s : State) {a b : Addr} (v : Byte) (h : b ≠ a) :
    Memory.read (busWrite s a v).ram b.toNat = Memory.read s.ram b.toNat := by
  have hne : b.toNat ≠ a.toNat := fun e => h (BitVec.eq_of_toNat_eq e)
  unfold busWrite mmuRegWrite bankWrite
  split
  · rfl
  · exact Memory.read_write_other _ v hne
  · rfl
  · split
    · rfl
    · split <;> rfl
  · split
    · rw [State.setBankRam_ram]
    · split <;> rfl
    · rfl
  · rfl

theorem State.Accesses.read_ram (h : s.Accesses W t) {a : Addr} (ha : ¬ W a) :
    Memory.read t.ram a.toNat = Memory.read s.ram a.toNat :=
  h.eq_of_kept (f := fun s => Memory.read s.ram a.toNat) (fun h => by rw [h.ram]) (fun s b => by rw [busRead_ram])
    fun s b v hb => read_ram_busWrite_other s v fun e => ha (e.symm ▸ hb)

theorem bankLocate_fail (m : Mmu) (c : Byte) (k : Window) (o : Nat) : bankLocate (m.fail c) k o = bankLocate m k o :=
  bankLocate_congr (m := m) (m' := m.fail c) k (by cases k <;> rfl) (fun _ => rfl) (fun _ => rfl) (fun _ => rfl) o

/-- Outside the MMU registers a byte depends on the memories and on the nodes, not on ERROR and COMMAND. -/
theorem peek_congr {a : Addr} (hc : t.cfg = s.cfg) (hr : t.ram = s.ram) (ho : t.rom = s.rom) (h1 : t.bankRam1 = s.bankRam1)
    (h2 : t.bankRam2 = s.bankRam2) (hm : t.mmu = s.mmu ∨ t.mmu = s.mmu.fail s.cfg.errors.bank)
    (ha : s.inMmuBlock a = false) : t.peek a = s.peek a := by
  have hl : t.locate a = s.locate a := locate_congr hc a
  have hbank (k : Window) : t.bankRam k = s.bankRam k := by cases k <;> assumption
  have hloc (k : Window) (o : Nat) : bankLocate t.mmu k o = bankLocate s.mmu k o := by
    rcases hm with e | e <;> rw [e]
    exact bankLocate_fail ..
  have hnode : t.mmu.node = s.mmu.node := by
    rcases hm with e | e <;> rw [e]
    rfl
  unfold State.inMmuBlock at ha
  cases h : s.locate a with
  | none => simp only [State.peek, hl, h]
  | some p =>
    obtain ⟨k, o⟩ := p
    cases k with
    | ram => simp only [State.peek, hl, h, hr]
    | rom => simp only [State.peek, hl, h, ho]
    | mmuReg => simp [h] at ha
    | bankWin k => simp only [State.peek, hl, h, hloc, hbank, hnode]
    | external => simp only [State.peek, hl, h]

theorem State.SameMemory.peek (h : s.SameMemory t) {a : Addr} (ha : s.inMmuBlock a = false) : t.peek a = s.peek a :=
  peek_congr h.cfg h.ram h.rom h.bankRam1 h.bankRam2 (.inl h.mmu) ha

/-- A read has no effect that a byte outside the MMU registers shows (20_memory.md R91, R95). -/
theorem peek_busRead (s : State) (b : Addr) {a : Addr} (ha : s.inMmuBlock a = false) : (busRead s b).2.peek a = s.peek a :=
  peek_congr (busRead_cfg s b) (busRead_ram s b) (busRead_rom s b) (busRead_bankRam1 s b) (busRead_bankRam2 s b)
    (busRead_memory s b).2.2.2.2 ha

theorem inMmuBlock_congr (hc : t.cfg = s.cfg) (a : Addr) : t.inMmuBlock a = s.inMmuBlock a := by
  rw [State.inMmuBlock, State.inMmuBlock, locate_congr hc]

theorem inRam_congr (hc : t.cfg = s.cfg) (a : Addr) : t.inRam a = s.inRam a := by
  rw [State.inRam, State.inRam, locate_congr hc]

/-- Where every write goes to RAM, every other byte outside the MMU registers reads as before. -/
theorem State.Accesses.peek (h : s.Accesses W t) (hW : ∀ a, W a → s.inRam a = true) {a : Addr} (ha : ¬ W a)
    (hb : s.inMmuBlock a = false) : t.peek a = s.peek a := by
  induction h with
  | idle h => exact h.peek hb
  | read s b => exact peek_busRead s b hb
  | @write s b v hw =>
    obtain ⟨o, hl⟩ := inRam_iff.mp (hW b hw)
    have hne : a ≠ b := by
      rintro rfl
      exact ha hw
    rw [peek_busWrite_ram hl, if_neg hne]
  | trans h _ ih ih' =>
    exact (ih' (fun a hw => (inRam_congr h.cfg a).trans (hW a hw)) ((inMmuBlock_congr h.cfg _).trans hb)).trans (ih hW hb)

/-- Without a write the MMU is as before, but that a failed window read sets ERROR and clears COMMAND
(20_memory.md R95). -/
theorem State.Accesses.mmu_of_noWrite (h : s.Accesses W t) (hW : ∀ a, ¬ W a) :
    t.mmu = s.mmu ∨ t.mmu = s.mmu.fail s.cfg.errors.bank := by
  induction h with
  | idle h => exact .inl h.mmu
  | read s a => exact (busRead_memory s a).2.2.2.2
  | write s v hw => exact absurd hw (hW _)
  | trans h _ ih ih' =>
    rw [h.cfg] at ih'
    rcases ih with e | e
    · exact e ▸ ih'
    · rw [e] at ih'
      exact .inr (ih'.elim id id)

/-- Accesses without a write leave the memories as the same lists. -/
theorem State.Accesses.memoryUnchanged (h : s.Accesses W t) (hW : ∀ a, ¬ W a) : MemoryUnchanged s t where
  bytes a hb := h.peek (fun b hw => absurd hw (hW b)) (hW a) hb
  mmu := h.mmu_of_noWrite hW
  ram := h.eq_of_kept (·.ram) busRead_ram fun _ a _ hw => absurd hw (hW a)
  rom := h.rom
  bankRam1 := h.eq_of_kept (·.bankRam1) busRead_bankRam1 fun _ a _ hw => absurd hw (hW a)
  bankRam2 := h.eq_of_kept (·.bankRam2) busRead_bankRam2 fun _ a _ hw => absurd hw (hW a)

end

/-! ### Changes of registers alone -/

section
variable (s : State)

theorem setAcc_sameMemory (r : Acc) (v : Byte) : s.SameMemory (s.setAcc r v) := by constructor <;> simp

theorem loadReg16_sameMemory (r : Reg16) (w : Word) : s.SameMemory (s.loadReg16 r w) := by constructor <;> simp

theorem setBase_sameMemory (r : IdxReg) (w : Word) : s.SameMemory (s.setBase r w) := by constructor <;> simp

theorem setStackPtr_sameMemory (k : Stack) (w : Word) : s.SameMemory (s.setStackPtr k w) := by constructor <;> simp

theorem withCC_sameMemory (f : CC) : s.SameMemory { s with cc := f } := ⟨rfl, rfl, rfl, rfl, rfl, rfl⟩

theorem withWait_sameMemory (w : WaitState) : s.SameMemory { s with wait := w } := ⟨rfl, rfl, rfl, rfl, rfl, rfl⟩

theorem andCC_sameMemory (v : Byte) : s.SameMemory (s.andCC v) := withCC_sameMemory s _

theorem setE_sameMemory (v : Bool) : s.SameMemory (s.setE v) := withCC_sameMemory s _

theorem maskInterrupts_sameMemory : s.SameMemory s.maskInterrupts := withCC_sameMemory s _

theorem sub8Flags_sameMemory (a m : Byte) (c : Bool) : s.SameMemory (sub8Flags a m c s) := ⟨rfl, rfl, rfl, rfl, rfl, rfl⟩

theorem unaryFlags_sameMemory (op : Unary) (m : Byte) : s.SameMemory (unaryFlags op m s) := by
  unfold unaryFlags
  split <;> constructor <;> rfl

theorem addBusy_sameMemory (n : Nat) : s.SameMemory (s.addBusy n) := ⟨rfl, rfl, rfl, rfl, rfl, rfl⟩

theorem jump_sameMemory (a : Addr) : s.SameMemory (s.jump a) := ⟨rfl, rfl, rfl, rfl, rfl, rfl⟩

/-- TFR and EXG write registers or raise a fault (41_load_store_transfer.md R229, R230). -/
theorem transfer_sameMemory (src dst : BitVec 4) : s.SameMemory (transfer src dst s) := by
  unfold transfer
  split <;> constructor <;> simp [badPair]

theorem exchange_sameMemory (src dst : BitVec 4) : s.SameMemory (exchange src dst s) := by
  unfold exchange
  split <;> constructor <;> simp [badPair]

theorem branch8_sameMemory (k : Cond) (off : Byte) : s.SameMemory (branch8 k off s) := by
  unfold branch8
  split <;> constructor <;> rfl

theorem branch16_sameMemory (k : Cond) (off : Word) : s.SameMemory (branch16 k off s) := by
  unfold branch16
  split <;> constructor <;> rfl

end

/-! ### Words, and operands: reads alone -/

section
variable {W : Addr → Prop}

theorem read16_accesses (s : State) (a : Addr) : s.Accesses W (read16 s a).2 := (State.Accesses.read s a).trans (.read _ _)

theorem write16_accesses (s : State) {a : Addr} (w : Word) (hhi : W a) (hlo : W (a + 1)) : s.Accesses W (write16 s a w) :=
  (State.Accesses.write s _ hhi).trans (.write _ _ hlo)

theorem indirect_accesses {s : State} {p : Addr × State} (h : s.Accesses W p.2) (ind : Bool) :
    s.Accesses W (indirect ind p).2 := by
  cases ind
  · exact h
  · exact (h.trans (read16_accesses _ _)).andThen (addBusy_sameMemory _ 3)

theorem idxModeEa_sameMemory (m : IdxMode) (r : IdxReg) (s : State) : s.SameMemory (IdxMode.ea m r s).2 := by
  cases m <;> constructor <;> simp [IdxMode.ea]

theorem indexedEa_accesses (m : Indexed) (s : State) : s.Accesses W (Indexed.ea m s).2 := by
  cases m
  case off5 r n => exact .idle (addBusy_sameMemory s 1)
  case postInc1 r => exact (State.Accesses.idle (setBase_sameMemory s r _)).andThen (addBusy_sameMemory _ 2)
  case preDec1 r => exact (State.Accesses.idle (setBase_sameMemory s r _)).andThen (addBusy_sameMemory _ 2)
  case reg r ind m => exact indirect_accesses (.idle (idxModeEa_sameMemory m r s)) ind
  case pcr8 r ind n => exact indirect_accesses (p := (_, s.addBusy 1)) (.idle (addBusy_sameMemory s 1)) ind
  case pcr16 r ind n => exact indirect_accesses (p := (_, s.addBusy 5)) (.idle (addBusy_sameMemory s 5)) ind
  case extInd a => exact indirect_accesses (p := (a, s.addBusy 2)) (.idle (addBusy_sameMemory s 2)) true

theorem memEa_accesses (e : MemForm) (s : State) : s.Accesses W (MemForm.ea e s).2 := by
  cases e
  case idx m => exact indexedEa_accesses m s
  all_goals exact .refl s

theorem src8_accesses (m : Src8) (s : State) : s.Accesses W (Src8.read m s).2 := by
  cases m
  case imm => exact .refl s
  case mem e => exact (memEa_accesses e s).trans (.read _ _)

theorem src16_accesses (m : Src16) (s : State) : s.Accesses W (Src16.read m s).2 := by
  cases m
  case imm => exact .refl s
  case mem e => exact (memEa_accesses e s).trans (read16_accesses _ _)

/-! ### Pulls: reads alone (45_stack_system.md R420, R422) -/

theorem pull8_accesses (k : Stack) (s : State) : s.Accesses W (pull8 k s).2 :=
  (State.Accesses.read s _).andThen (setStackPtr_sameMemory _ k _)

theorem pull16_accesses (k : Stack) (s : State) : s.Accesses W (pull16 k s).2 :=
  (pull8_accesses k s).trans (pull8_accesses k _)

theorem pullItem_accesses (k : Stack) (i : StackItem) (s : State) : s.Accesses W (pullItem k i s) := by
  have byte {t : State} (h : (pull8 k s).2.SameMemory t) : s.Accesses W t := (pull8_accesses k s).andThen h
  have word {t : State} (h : (pull16 k s).2.SameMemory t) : s.Accesses W t := (pull16_accesses k s).andThen h
  cases i
  case pc => exact word ⟨rfl, rfl, rfl, rfl, rfl, rfl⟩
  case other => cases k <;> exact word ⟨rfl, rfl, rfl, rfl, rfl, rfl⟩
  case y => exact word ⟨rfl, rfl, rfl, rfl, rfl, rfl⟩
  case x => exact word ⟨rfl, rfl, rfl, rfl, rfl, rfl⟩
  all_goals exact byte ⟨rfl, rfl, rfl, rfl, rfl, rfl⟩

theorem pullItems_accesses (k : Stack) (is : List StackItem) (s : State) : s.Accesses W (pullItems k is s) := by
  unfold pullItems
  induction is generalizing s with
  | nil => exact .refl s
  | cons i is ih => exact (pullItem_accesses k i s).trans (ih _)

theorem returnFromInterrupt_accesses (s : State) : s.Accesses W (returnFromInterrupt s) := by
  have hcc : s.Accesses W (pullItem .s .cc s) := pullItem_accesses .s .cc s
  unfold returnFromInterrupt
  dsimp only
  split
  · have hall := (hcc.trans (pullItems_accesses .s rtiItems _)).andThen (addBusy_sameMemory _ 9)
    exact hall.trans (pullItem_accesses .s .pc _)
  · exact hcc.trans (pullItem_accesses .s .pc _)

theorem jumpVector_accesses (v : Vector) (s : State) : s.Accesses W (jumpVector v s) :=
  (read16_accesses s v.addr).andThen (jump_sameMemory _ _)

end

/-! ### Pushes: writes below the stack pointer (45_stack_system.md R420, R421) -/

/-- The `n` addresses below `p`, the highest first: where `n` bytes are pushed. -/
def addrsBelow (p : Word) (n : Nat) : List Addr := (List.range n).map fun j => p - 1 - BitVec.ofNat 16 j

theorem addrsBelow_add (p : Word) (m n : Nat) :
    addrsBelow p (m + n) = addrsBelow p m ++ addrsBelow (p - BitVec.ofNat 16 m) n := by
  simp only [addrsBelow, List.range_add, List.map_append, List.map_map, List.append_cancel_left_eq]
  refine List.map_congr_left fun j _ => ?_
  simp only [Function.comp_apply, BitVec.ofNat_add]
  ring

/-- `t` comes from `s` by pushing `n` bytes on stack `k`, and reads. -/
def State.PushesBelow (s t : State) (k : Stack) (n : Nat) : Prop := s.Accesses (· ∈ addrsBelow (s.stackPtr k) n) t

/-- Pushing `m` bytes and then `n` bytes. -/
theorem State.PushesBelow.trans {s t u : State} {k : Stack} {m n : Nat} (h : s.PushesBelow t k m) (h' : t.PushesBelow u k n)
    (hp : t.stackPtr k = s.stackPtr k - BitVec.ofNat 16 m) : s.PushesBelow u k (m + n) := by
  unfold State.PushesBelow at *
  rw [hp] at h'
  rw [addrsBelow_add]
  exact (h.mono fun a ha => List.mem_append_left _ ha).trans (h'.mono fun a ha => List.mem_append_right _ ha)

theorem push8_pushesBelow (k : Stack) (v : Byte) (s : State) : s.PushesBelow (push8 k v s) k 1 :=
  (State.Accesses.idle (setStackPtr_sameMemory s k _)).trans (.write _ v (by simp [addrsBelow]))

theorem push16_pushesBelow (k : Stack) (w : Word) (s : State) : s.PushesBelow (push16 k w s) k 2 :=
  (push8_pushesBelow k _ s).trans (push8_pushesBelow k _ _) (push8_stackPtr k _ s)

theorem pushItem_pushesBelow (k : Stack) (i : StackItem) (s : State) : s.PushesBelow (pushItem k i s) k i.bytes := by
  cases i
  case pc => exact push16_pushesBelow k _ s
  case other => cases k <;> exact push16_pushesBelow _ _ s
  case y => exact push16_pushesBelow k _ s
  case x => exact push16_pushesBelow k _ s
  all_goals exact push8_pushesBelow k _ s

theorem pushItems_pushesBelow (k : Stack) (is : List StackItem) (s : State) :
    s.PushesBelow (pushItems k is s) k (frameBytes is) := by
  induction is generalizing s with
  | nil => exact .refl s
  | cons i is ih => exact (pushItem_pushesBelow k i s).trans (ih (pushItem k i s)) (pushItem_stackPtr k i s)

/-- The entire frame is 12 bytes (45_stack_system.md R420). -/
theorem pushEntire_pushesBelow (s : State) : s.PushesBelow (pushEntire s) .s 12 :=
  (State.Accesses.idle (setE_sameMemory s true)).trans (pushItems_pushesBelow .s pushOrder (s.setE true))

theorem call_pushesBelow (a : Addr) (s : State) : s.PushesBelow (call a s) .s 2 :=
  (push16_pushesBelow .s s.pc s).andThen (jump_sameMemory _ a)

/-! ### Every operation -/

/-- `Instr.storedAt`, by operation. -/
def Op.storedAt (o : Op) (s : State) : List Addr :=
  match o with
  | .unaryMem _ e | .clearMem e | .store8 _ e => [(MemForm.ea e s).1]
  | .store16 _ e => [(MemForm.ea e s).1, (MemForm.ea e s).1 + 1]
  | .pushMask k mask => addrsBelow (s.stackPtr k) (frameBytes (selected mask pushOrder))
  | .call8 _ | .call16 _ => addrsBelow s.sp 2
  | .callEa e => addrsBelow (MemForm.ea e s).2.sp 2
  | .softInt _ _ | .waitCwai _ => addrsBelow s.sp 12
  | _ => []

theorem storedAt_opOf (i : Instr) (s : State) : (opOf i).storedAt s = Instr.storedAt i s := by
  cases i <;> rfl

/-- An instruction that stores nothing has no address it stores to. -/
theorem storedAt_of_storesNothing {i : Instr} (h : Instr.storesNothing i = true) (s : State) : Instr.storedAt i s = [] := by
  cases i <;> first | rfl | cases h

/-- An operation writes memory at the addresses it stores to and nowhere else; what else it does to memory is reading. -/
theorem run_accesses (o : Op) (s : State) : s.Accesses (· ∈ o.storedAt s) (o.run s) := by
  have regs {t : State} (h : s.SameMemory t) : s.Accesses (· ∈ o.storedAt s) t := .idle h
  cases o
  case addAcc r c m => exact ((src8_accesses m s).andThen (setAcc_sameMemory _ r _)).andThen (withCC_sameMemory _ _)
  case subAcc r c m =>
    exact ((src8_accesses m s).andThen (sub8Flags_sameMemory _ _ _ _)).andThen (setAcc_sameMemory _ r _)
  case cmpAcc r m => exact (src8_accesses m s).andThen (sub8Flags_sameMemory _ _ _ _)
  case logicAcc f r m => exact ((src8_accesses m s).andThen (setAcc_sameMemory _ r _)).andThen (withCC_sameMemory _ _)
  case bitTest r m => exact (src8_accesses m s).andThen (withCC_sameMemory _ _)
  case load8 r m => exact ((src8_accesses m s).andThen (setAcc_sameMemory _ r _)).andThen (withCC_sameMemory _ _)
  case addD m => exact ((src16_accesses m s).andThen (loadReg16_sameMemory _ .d _)).andThen (withCC_sameMemory _ _)
  case subD m => exact ((src16_accesses m s).andThen (loadReg16_sameMemory _ .d _)).andThen (withCC_sameMemory _ _)
  case cmp16 r m => exact (src16_accesses m s).andThen (withCC_sameMemory _ _)
  case load16 r m => exact ((src16_accesses m s).andThen (loadReg16_sameMemory _ r _)).andThen (withCC_sameMemory _ _)
  case unaryAcc op r => exact (regs (unaryFlags_sameMemory s _ _)).andThen (setAcc_sameMemory _ r _)
  case testAcc r => exact regs (withCC_sameMemory s _)
  case clearAcc r => exact (regs (setAcc_sameMemory s r _)).andThen (withCC_sameMemory _ _)
  case unaryMem op e =>
    have hread : s.Accesses (· ∈ [(MemForm.ea e s).1]) (busRead (MemForm.ea e s).2 (MemForm.ea e s).1).2 :=
      (memEa_accesses e s).trans (.read _ _)
    exact (hread.andThen (unaryFlags_sameMemory _ _ _)).trans (.write _ _ (List.mem_singleton_self _))
  case testMem e => exact ((memEa_accesses e s).trans (.read _ _)).andThen (withCC_sameMemory _ _)
  case clearMem e =>
    exact ((memEa_accesses e s).trans (.write _ _ (List.mem_singleton_self _))).andThen (withCC_sameMemory _ _)
  case store8 r e =>
    exact ((memEa_accesses e s).trans (.write _ _ (List.mem_singleton_self _))).andThen (withCC_sameMemory _ _)
  case store16 r e =>
    have hhigh : (MemForm.ea e s).1 ∈ (Op.store16 r e).storedAt s := List.mem_cons_self
    have hlow : (MemForm.ea e s).1 + 1 ∈ (Op.store16 r e).storedAt s := List.mem_cons_of_mem _ (List.mem_singleton_self _)
    exact ((memEa_accesses e s).trans (write16_accesses _ _ hhigh hlow)).andThen (withCC_sameMemory _ _)
  case leaZ r m => exact ((indexedEa_accesses m s).andThen (loadReg16_sameMemory _ r _)).andThen (withCC_sameMemory _ _)
  case lea r m => exact (indexedEa_accesses m s).andThen (loadReg16_sameMemory _ r _)
  case mulAB => exact regs ⟨rfl, rfl, rfl, rfl, rfl, rfl⟩
  case decimalAdjust => exact regs ⟨rfl, rfl, rfl, rfl, rfl, rfl⟩
  case signExtend => exact regs ⟨rfl, rfl, rfl, rfl, rfl, rfl⟩
  case addBX => exact regs ⟨rfl, rfl, rfl, rfl, rfl, rfl⟩
  case andCC v => exact regs (withCC_sameMemory s _)
  case orCC v => exact regs (withCC_sameMemory s _)
  case transfer src dst => exact regs (transfer_sameMemory s src dst)
  case exchange src dst => exact regs (exchange_sameMemory s src dst)
  case branch8 k off => exact regs (branch8_sameMemory s k off)
  case branch16 k off => exact regs (branch16_sameMemory s k off)
  case jump16 off => exact regs (jump_sameMemory s _)
  case jumpEa e => exact (memEa_accesses e s).andThen (jump_sameMemory _ _)
  case call8 off => exact call_pushesBelow _ s
  case call16 off => exact call_pushesBelow _ s
  case callEa e => exact (memEa_accesses e s).trans (call_pushesBelow _ _)
  case pullPc => exact pullItem_accesses .s .pc s
  case skip => exact .refl s
  case pushMask k mask => exact (pushItems_pushesBelow k _ s).andThen (addBusy_sameMemory _ _)
  case pullMask k mask => exact (pullItems_accesses k _ s).andThen (addBusy_sameMemory _ _)
  case softInt v masks =>
    have hpush : s.Accesses (· ∈ addrsBelow s.sp 12) (pushEntire s) := pushEntire_pushesBelow s
    cases masks
    · exact hpush.trans (jumpVector_accesses v _)
    · exact (hpush.andThen (maskInterrupts_sameMemory _)).trans (jumpVector_accesses v _)
  case returnFromInterrupt => exact returnFromInterrupt_accesses s
  case waitCwai v =>
    have hpush : (s.andCC v).Accesses (· ∈ addrsBelow s.sp 12) (pushEntire (s.andCC v)) :=
      pushEntire_pushesBelow (s.andCC v)
    exact ((State.Accesses.idle (andCC_sameMemory s v)).trans hpush).andThen (withWait_sameMemory _ .cwai)
  case waitSync => exact regs (withWait_sameMemory s .sync)

theorem exec_accesses {i : Instr} {s t : State} (h : exec i s = .next t) : s.Accesses (· ∈ Instr.storedAt i s) t := by
  obtain ⟨-, rfl⟩ := exec_next_iff.mp h
  exact storedAt_opOf i s ▸ run_accesses (opOf i) s

/-- Settles O17: an instruction that stores nothing makes reads alone. -/
theorem storelessFrame : Obligations.StorelessFrame := by
  intro i s t hi ht
  refine (exec_accesses ht).memoryUnchanged fun a ha => ?_
  rw [storedAt_of_storesNothing hi] at ha
  exact absurd ha List.not_mem_nil

/-- Settles O18: its accesses are reads, and writes at the addresses it stores to. -/
theorem storeFrame : Obligations.StoreFrame := by
  intro i s t ht
  have h := exec_accesses ht
  exact ⟨fun a ha => h.read_ram ha, h.rom, fun hram a ha hb => h.peek hram ha hb⟩

end Sys2Proof.Machine

/-! PROOFS. The decoder and the encoder are inverse to each other, and what they reject (30_encoding.md R130 to R149,
40_addressing_modes.md R179 to R196). -/

namespace Sys2Proof

open Machine

/-! ### The rows of the map, from both sides -/

/-- `ops` are the operand bytes from which a row of this shape makes `i` (30_encoding.md R133 to R143). -/
def Shape.Reads : Shape → Instr → List Byte → Prop
  | .inh j, i, ops => i = j ∧ ops = []
  | .byte f, i, ops => ∃ v, i = f v ∧ ops = [v]
  | .word f, i, ops => ∃ w, i = f w ∧ ops = [hiByte w, loByte w]
  | .pair f, i, ops => ∃ src dst, i = f src dst ∧ ops = [src ++ dst]
  | .indexed f, i, ops => ∃ m, i = f m ∧ ops = m.bytes

/-- The bytes that `FetchOpcode` takes: two where the first is a page byte, else one (30_encoding.md R130, R149). -/
def isOpcode : List Byte → Bool
  | [b0] => b0 != 0x10 && b0 != 0x11
  | [b0, _] => b0 == 0x10 || b0 == 0x11
  | _ => false

/-- The encoder lays `i` out as opcode bytes of a mapped key and the operand bytes from which its row makes `i`. -/
def Instr.HasRow (i : Instr) : Prop :=
  isOpcode i.parts.1 = true ∧ ∃ row, lookupKey (keyOf i.parts.1) = some row ∧ row.shape.Reads i i.parts.2

/-- The encoder lays out what a row of this shape makes as the key and the operand bytes of the row. -/
def Shape.EncodedWith (key : Nat) : Shape → Prop
  | .inh i => i.parts.map keyOf id = (key, [])
  | .byte f => ∀ v, (f v).parts.map keyOf id = (key, [v])
  | .word f => ∀ w, (f w).parts.map keyOf id = (key, [hiByte w, loByte w])
  | .pair f => ∀ src dst, (f src dst).parts.map keyOf id = (key, [src ++ dst])
  | .indexed f => ∀ m, (f m).parts.map keyOf id = (key, m.bytes)

/-! ### Readers over a list of bytes -/

/-- A reader that has its answer does not look at the bytes after it. -/
theorem Reader.decodeList_append_of_ok {r : Reader} {bs rest : List Byte} {i : Instr}
    (h : r.decodeList bs = .ok (i, rest)) (more : List Byte) : r.decodeList (bs ++ more) = .ok (i, rest ++ more) := by
  induction r generalizing bs with
  | done a =>
    cases a <;> cases h
    rfl
  | more k ih =>
    cases bs with
    | nil => cases h
    | cons b bs => exact ih b h

/-- A reader that has rejected does not look at the bytes after it. -/
theorem Reader.decodeList_append_of_rejected {r : Reader} {bs : List Byte} {e : Reject}
    (h : r.decodeList bs = .error (.rejected e)) (more : List Byte) :
    r.decodeList (bs ++ more) = .error (.rejected e) := by
  induction r generalizing bs with
  | done a =>
    cases a <;> cases h
    rfl
  | more k ih =>
    cases bs with
    | nil => cases h
    | cons b bs => exact ih b h

/-! ### Indexed operands (40_addressing_modes.md R179 to R196) -/

/-- The operand that the indexed handler reads from a postbyte and extension bytes of 0. -/
def Indexed.ofPostbyte (pb : Byte) : Option Indexed :=
  match (indexedReader .leax).decodeList [pb, 0, 0] with
  | .ok (.leax m, _) => some m
  | _ => none

theorem Indexed.postbyte_ofPostbyte (pb : Byte) :
    (Indexed.ofPostbyte pb).map Indexed.postbyte = some pb ∨ pb ∈ invalidPostbytes := by
  revert pb
  decide

/-- Every postbyte that is not invalid is the postbyte of an operand (R195, R196). -/
theorem Indexed.exists_postbyte {pb : Byte} (h : pb ∉ invalidPostbytes) : ∃ m : Indexed, m.postbyte = pb := by
  obtain ⟨m, -, hm⟩ := Option.map_eq_some_iff.mp ((Indexed.postbyte_ofPostbyte pb).resolve_right h)
  exact ⟨m, hm⟩

/-- The postbyte alone decides how many extension bytes follow; they may be any bytes (R196). -/
theorem Indexed.exists_bytes (m : Indexed) {ext : List Byte} (h : ext.length = m.ext.length) :
    ∃ m' : Indexed, m'.bytes = m.postbyte :: ext := by
  have hbyte {mk : Byte → Indexed} (hmk : ∀ n, (mk n).bytes = m.postbyte :: [n]) (h : ext.length = 1) :
      ∃ m' : Indexed, m'.bytes = m.postbyte :: ext := by
    obtain ⟨n, rfl⟩ := List.length_eq_one_iff.mp h
    exact ⟨mk n, hmk n⟩
  have hword {mk : Word → Indexed} (hmk : ∀ w, (mk w).bytes = m.postbyte :: [hiByte w, loByte w]) (h : ext.length = 2) :
      ∃ m' : Indexed, m'.bytes = m.postbyte :: ext := by
    obtain ⟨hi, lo, rfl⟩ := List.length_eq_two.mp h
    exact ⟨mk (joinBytes hi lo), by rw [hmk, hiByte_joinBytes, loByte_joinBytes]⟩
  have hnone (hm : m.ext = []) : ∃ m' : Indexed, m'.bytes = m.postbyte :: ext := by
    rw [hm, List.length_nil, List.length_eq_zero_iff] at h
    exact ⟨m, by rw [Indexed.bytes, hm, h]⟩
  cases m with
  | off5 r n => exact hnone rfl
  | postInc1 r => exact hnone rfl
  | preDec1 r => exact hnone rfl
  | reg r ind k =>
    cases k with
    | off8 n => exact hbyte (mk := fun n => .reg r ind (.off8 n)) (fun _ => rfl) h
    | off16 n => exact hword (mk := fun w => .reg r ind (.off16 w)) (fun _ => rfl) h
    | _ => exact hnone rfl
  | pcr8 r ind n => exact hbyte (mk := .pcr8 r ind) (fun _ => rfl) h
  | pcr16 r ind n => exact hword (mk := .pcr16 r ind) (fun _ => rfl) h
  | extInd a => exact hword (mk := .extInd) (fun _ => rfl) h

/-- A list that begins with a postbyte that is not invalid holds a whole operand, or is the beginning of one. -/
theorem Indexed.bytes_or_truncated {pb : Byte} (h : pb ∉ invalidPostbytes) (tail : List Byte) :
    (∃ (m : Indexed) (rest : List Byte), pb :: tail = m.bytes ++ rest) ∨
      ∃ (m : Indexed) (missing : List Byte), missing ≠ [] ∧ pb :: tail ++ missing = m.bytes := by
  obtain ⟨m, rfl⟩ := Indexed.exists_postbyte h
  rcases Nat.lt_or_ge tail.length m.ext.length with hlt | hge
  · obtain ⟨m', hm'⟩ := m.exists_bytes (ext := tail ++ List.replicate (m.ext.length - tail.length) 0)
      (by rw [List.length_append, List.length_replicate]; omega)
    exact .inr ⟨m', _, by simpa using Nat.sub_ne_zero_of_lt hlt, hm'.symm⟩
  · obtain ⟨m', hm'⟩ := m.exists_bytes (ext := tail.take m.ext.length)
      (by rw [List.length_take]; omega)
    exact .inl ⟨m', tail.drop m.ext.length, by rw [hm', List.cons_append, List.take_append_drop]⟩

/-- An invalid postbyte is rejected before any extension byte (R195). -/
theorem decodeList_indexedReader_invalid {pb : Byte} (h : pb ∈ invalidPostbytes) (f : Indexed → Instr)
    (rest : List Byte) :
    (indexedReader f).decodeList (pb :: rest) = .error (.rejected (.invalidPostbyte pb)) := by
  have hone : (indexedReader f).decodeList [pb] = .error (.rejected (.invalidPostbyte pb)) := by
    fin_cases h <;> rfl
  exact Reader.decodeList_append_of_rejected hone rest

theorem decodeList_indexedReader_eq_ok {f : Indexed → Instr} {bs rest : List Byte} {i : Instr} :
    (indexedReader f).decodeList bs = .ok (i, rest) ↔ ∃ m, i = f m ∧ bs = m.bytes ++ rest := by
  constructor
  · intro h
    cases bs with
    | nil => cases h
    | cons pb tail =>
      by_cases hpb : pb ∈ invalidPostbytes
      · rw [decodeList_indexedReader_invalid hpb] at h
        cases h
      · rcases Indexed.bytes_or_truncated hpb tail with ⟨m, rest', hm⟩ | ⟨m, missing, hne, hm⟩
        · rw [hm, decodeList_indexedReader] at h
          cases h
          exact ⟨m, rfl, hm⟩
        · have hw := Reader.decodeList_append_of_ok h missing
          rw [hm, ← List.append_nil m.bytes, decodeList_indexedReader, Except.ok.injEq, Prod.mk.injEq] at hw
          exact absurd (List.append_eq_nil_iff.mp hw.2.symm).2 hne
  · rintro ⟨m, rfl, rfl⟩
    exact decodeList_indexedReader f m rest

theorem decodeList_indexedReader_eq_rejected {f : Indexed → Instr} {pb : Byte} {rest : List Byte} :
    (indexedReader f).decodeList (pb :: rest) = .error (.rejected (.invalidPostbyte pb)) ↔ pb ∈ invalidPostbytes := by
  refine ⟨fun h => ?_, fun h => decodeList_indexedReader_invalid h f rest⟩
  by_contra hpb
  rcases Indexed.bytes_or_truncated hpb rest with ⟨m, rest', hm⟩ | ⟨m, missing, -, hm⟩
  · rw [hm, decodeList_indexedReader] at h
    cases h
  · have hw := Reader.decodeList_append_of_rejected h missing
    rw [hm, ← List.append_nil m.bytes, decodeList_indexedReader] at hw
    cases hw

/-! ### The operand bytes of a shape -/

/-- The two codes of a REGPAIR postbyte are the whole of it (30_encoding.md R142). -/
theorem pair_fields_append (p : Byte) : (p.extractLsb' 4 4 ++ p.extractLsb' 0 4 : Byte) = p := by
  revert p
  decide

/-- The reader of a shape takes exactly the operand bytes of the instruction that it answers. -/
theorem Shape.decodeList_reader_eq_ok {sh : Shape} {bs rest : List Byte} {i : Instr} :
    sh.reader.decodeList bs = .ok (i, rest) ↔ ∃ ops, sh.Reads i ops ∧ bs = ops ++ rest := by
  constructor
  · intro h
    cases sh with
    | inh j =>
      cases h
      exact ⟨[], ⟨rfl, rfl⟩, rfl⟩
    | byte f =>
      match bs, h with
      | v :: bs, h =>
        cases h
        exact ⟨[v], ⟨v, rfl, rfl⟩, rfl⟩
    | word f =>
      match bs, h with
      | hi :: lo :: bs, h =>
        cases h
        exact ⟨[hi, lo], ⟨joinBytes hi lo, rfl, by simp⟩, rfl⟩
    | pair f =>
      match bs, h with
      | p :: bs, h =>
        cases h
        exact ⟨[p], ⟨_, _, rfl, by rw [pair_fields_append]⟩, rfl⟩
    | indexed f =>
      obtain ⟨m, hi, hbs⟩ := decodeList_indexedReader_eq_ok.mp h
      exact ⟨m.bytes, ⟨m, hi, rfl⟩, hbs⟩
  · rintro ⟨ops, hops, rfl⟩
    cases sh with
    | inh j =>
      obtain ⟨rfl, rfl⟩ := hops
      rfl
    | byte f =>
      obtain ⟨v, rfl, rfl⟩ := hops
      rfl
    | word f =>
      obtain ⟨w, rfl, rfl⟩ := hops
      exact (decodeList_wordReader f _ _ rest).trans (by rw [joinBytes_hi_lo])
    | pair f =>
      obtain ⟨src, dst, rfl, rfl⟩ := hops
      exact decodeList_pairReader f src dst rest
    | indexed f =>
      obtain ⟨m, rfl, rfl⟩ := hops
      exact decodeList_indexedReader f m rest

/-! ### Opcode bytes -/

theorem isOpcode_single {b0 : Byte} : isOpcode [b0] = true ↔ ¬(b0 = 0x10 ∨ b0 = 0x11) := by
  simp [isOpcode]

theorem isOpcode_paged {b0 b1 : Byte} : isOpcode [b0, b1] = true ↔ b0 = 0x10 ∨ b0 = 0x11 := by
  simp [isOpcode]

theorem isOpcode_cases {op : List Byte} (h : isOpcode op = true) :
    (∃ b0, op = [b0]) ∨ ∃ b0 b1, op = [b0, b1] ∧ (b0 = 0x10 ∨ b0 = 0x11) := by
  match op, h with
  | [b0], _ => exact .inl ⟨b0, rfl⟩
  | [b0, b1], h => exact .inr ⟨b0, b1, rfl, isOpcode_paged.mp h⟩

theorem zext8_toNat (b : Byte) : (zext8 b).toNat = b.toNat := by
  have := b.isLt
  rw [zext8, BitVec.toNat_setWidth, Nat.mod_eq_of_lt (by omega)]

/-- A one-byte key is below every two-byte key. -/
theorem keyOf_single_lt_paged (b b0 b1 : Byte) (h : b0 = 0x10 ∨ b0 = 0x11) : keyOf [b] < keyOf [b0, b1] := by
  have := b.isLt
  rw [keyOf, keyOf, joinBytes_toNat]
  · rcases h with rfl | rfl <;> simp <;> omega
  · simp

/-- Distinct opcode bytes form distinct keys (30_encoding.md R131). -/
theorem isOpcode_keyOf_injective {op op' : List Byte} (h : isOpcode op = true) (h' : isOpcode op' = true)
    (hkey : keyOf op = keyOf op') : op = op' := by
  rcases isOpcode_cases h with ⟨b, rfl⟩ | ⟨b0, b1, rfl, hb⟩ <;>
    rcases isOpcode_cases h' with ⟨c, rfl⟩ | ⟨c0, c1, rfl, hc⟩
  · rw [BitVec.eq_of_toNat_eq hkey]
  · exact absurd hkey (keyOf_single_lt_paged b c0 c1 hc).ne
  · exact absurd hkey (keyOf_single_lt_paged c b0 b1 hb).ne'
  · have hjoin : joinBytes b0 b1 = joinBytes c0 c1 := BitVec.eq_of_toNat_eq hkey
    have hhi : b0 = c0 := by simpa using congrArg hiByte hjoin
    have hlo : b1 = c1 := by simpa using congrArg loByte hjoin
    rw [hhi, hlo]

/-! ### The decoder -/

theorem decode_single {b0 : Byte} (h : ¬(b0 = 0x10 ∨ b0 = 0x11)) (bs : List Byte) :
    decode (b0 :: bs) = (keyReader (zext8 b0)).decodeList bs := by
  simp only [decode, decoder, Reader.decodeList, if_neg h]

theorem decode_paged {b0 : Byte} (h : b0 = 0x10 ∨ b0 = 0x11) (b1 : Byte) (bs : List Byte) :
    decode (b0 :: b1 :: bs) = (keyReader (joinBytes b0 b1)).decodeList bs := by
  simp only [decode, decoder, Reader.decodeList, if_pos h]

theorem decode_page_byte_alone {b0 : Byte} (h : b0 = 0x10 ∨ b0 = 0x11) : decode [b0] = .error .truncated := by
  simp only [decode, decoder, Reader.decodeList, if_pos h]

theorem keyReader_of_mapped {key : Word} {row : OpRow} (h : lookupKey key.toNat = some row) :
    keyReader key = row.shape.reader := by
  rw [keyReader, h]

theorem keyReader_of_unmapped {key : Word} (h : lookupKey key.toNat = none) :
    keyReader key = .done (.error (.invalidOpcode key)) := by
  rw [keyReader, h]

theorem keyReader_eq_ok {key : Word} {bs : List Byte} {a : Instr × List Byte}
    (h : (keyReader key).decodeList bs = .ok a) :
    ∃ row, lookupKey key.toNat = some row ∧ row.shape.reader.decodeList bs = .ok a := by
  cases hk : lookupKey key.toNat with
  | none =>
    rw [keyReader_of_unmapped hk] at h
    cases h
  | some row => exact ⟨row, rfl, keyReader_of_mapped hk ▸ h⟩

/-- After opcode bytes of a mapped key the decoder is the reader of the row's operand bytes (30_encoding.md R132). -/
theorem decode_opcode {op : List Byte} {row : OpRow} (hop : isOpcode op = true)
    (hrow : lookupKey (keyOf op) = some row) (bs : List Byte) :
    decode (op ++ bs) = row.shape.reader.decodeList bs := by
  match op, hop with
  | [b0], hop =>
    rw [List.singleton_append, decode_single (isOpcode_single.mp hop), keyReader_of_mapped]
    rwa [zext8_toNat]
  | [b0, b1], hop =>
    rw [List.cons_append, List.singleton_append, decode_paged (isOpcode_paged.mp hop), keyReader_of_mapped hrow]

/-- Bytes that decode begin with opcode bytes of a mapped key. -/
theorem exists_opcode_of_decode {bs : List Byte} {a : Instr × List Byte} (h : decode bs = .ok a) :
    ∃ op row tail, isOpcode op = true ∧ lookupKey (keyOf op) = some row ∧ bs = op ++ tail ∧
      row.shape.reader.decodeList tail = .ok a := by
  match bs, h with
  | b0 :: bs, h =>
    by_cases hb : b0 = 0x10 ∨ b0 = 0x11
    · match bs, h with
      | [], h =>
        rw [decode_page_byte_alone hb] at h
        cases h
      | b1 :: bs, h =>
        rw [decode_paged hb] at h
        obtain ⟨row, hrow, htail⟩ := keyReader_eq_ok h
        exact ⟨[b0, b1], row, bs, isOpcode_paged.mpr hb, hrow, rfl, htail⟩
    · rw [decode_single hb] at h
      obtain ⟨row, hrow, htail⟩ := keyReader_eq_ok h
      exact ⟨[b0], row, bs, isOpcode_single.mpr hb, by rwa [zext8_toNat] at hrow, rfl, htail⟩

/-- What the decoder answers: the instruction that a row makes from its operand bytes (30_encoding.md R130 to R143). -/
theorem decode_eq_ok_iff {bs rest : List Byte} {i : Instr} :
    decode bs = .ok (i, rest) ↔ ∃ op row ops, isOpcode op = true ∧ lookupKey (keyOf op) = some row ∧
      row.shape.Reads i ops ∧ bs = op ++ ops ++ rest := by
  constructor
  · intro h
    obtain ⟨op, row, tail, hop, hrow, rfl, htail⟩ := exists_opcode_of_decode h
    obtain ⟨ops, hops, rfl⟩ := Shape.decodeList_reader_eq_ok.mp htail
    exact ⟨op, row, ops, hop, hrow, hops, (List.append_assoc ..).symm⟩
  · rintro ⟨op, row, ops, hop, hrow, hops, rfl⟩
    rw [List.append_assoc, decode_opcode hop hrow]
    exact Shape.decodeList_reader_eq_ok.mpr ⟨ops, hops, rfl⟩

/-! ### Looking a key up in its block -/

/-- The rows of page 1 whose keys have bits 7:5 equal to `n`. -/
def page1Block (n : Nat) : List OpRow :=
  match n with
  | 0 => page1Rows01
  | 1 => page1Rows23
  | 2 => page1Rows45
  | 3 => page1Rows67
  | 4 => page1Rows89
  | 5 => page1RowsAB
  | 6 => page1RowsCD
  | _ => page1RowsEF

/-- The rows that a key can have: a block of page 1, or the key's page. -/
def blockRows (key : Nat) : List OpRow :=
  if key < 0x100 then page1Block (key / 0x20) else pageTable key

theorem page1_block_keys : (∀ row ∈ page1Rows01, row.key / 0x20 = 0) ∧ (∀ row ∈ page1Rows23, row.key / 0x20 = 1) ∧
    (∀ row ∈ page1Rows45, row.key / 0x20 = 2) ∧ (∀ row ∈ page1Rows67, row.key / 0x20 = 3) ∧
    (∀ row ∈ page1Rows89, row.key / 0x20 = 4) ∧ (∀ row ∈ page1RowsAB, row.key / 0x20 = 5) ∧
    (∀ row ∈ page1RowsCD, row.key / 0x20 = 6) ∧ ∀ row ∈ page1RowsEF, row.key / 0x20 = 7 := by
  decide

theorem find?_eq_none_of_block {rows : List OpRow} {n key : Nat} (hrows : ∀ row ∈ rows, row.key / 0x20 = n)
    (h : key / 0x20 ≠ n) : rows.find? (fun row => row.key == key) = none := by
  refine List.find?_eq_none.mpr fun row hrow heq => h ?_
  rw [← hrows row hrow, beq_iff_eq.mp heq]

/-- A look-up need only search the block of the key: the other blocks of page 1 hold other keys. -/
theorem lookupKey_eq_find?_blockRows (key : Nat) :
    lookupKey key = (blockRows key).find? fun row => row.key == key := by
  rw [lookupKey, blockRows]
  split_ifs with hlt
  · obtain ⟨h0, h1, h2, h3, h4, h5, h6, h7⟩ := page1_block_keys
    have hn : key / 0x20 < 8 := by omega
    rw [pageTable, if_pos hlt, page1Table, page1Block.eq_def]
    generalize hkey : key / 0x20 = n at hn
    interval_cases n <;>
      simp [hkey, find?_eq_none_of_block h0, find?_eq_none_of_block h1, find?_eq_none_of_block h2,
        find?_eq_none_of_block h3, find?_eq_none_of_block h4, find?_eq_none_of_block h5, find?_eq_none_of_block h6,
        find?_eq_none_of_block h7]
  · rfl

/-! ### What is not mapped (30_encoding.md R147, R149) -/

theorem lookupKey_isSome_iff {key : Nat} : (lookupKey key).isSome = true ↔ key ∈ (pageTable key).map OpRow.key := by
  simp [lookupKey, List.find?_isSome]

section
variable {base : Nat} {rows : List OpRow}

/-- The mapped keys of a page are the keys of its rows. -/
theorem mapped_keys_perm (hpage : ∀ k < 256, pageTable (base + k) = rows)
    (hkeys : ∀ row ∈ rows, base ≤ row.key ∧ row.key < base + 256) (hnodup : (rows.map OpRow.key).Nodup) :
    (((List.range 256).filter fun k => (lookupKey (base + k)).isSome).map (base + ·)).Perm (rows.map OpRow.key) := by
  refine (List.perm_ext_iff_of_nodup ((List.nodup_range.filter _).map fun _ _ h => Nat.add_left_cancel h) hnodup).mpr
    fun key => ⟨fun h => ?_, fun h => ?_⟩
  · obtain ⟨k, hk, rfl⟩ := List.mem_map.mp h
    obtain ⟨hk, hsome⟩ := List.mem_filter.mp hk
    rwa [lookupKey_isSome_iff, hpage k (List.mem_range.mp hk)] at hsome
  · obtain ⟨row, hrow, rfl⟩ := List.mem_map.mp h
    obtain ⟨hlo, hhi⟩ := hkeys row hrow
    have hkey : base + (row.key - base) = row.key := Nat.add_sub_cancel' hlo
    have hlt : row.key - base < 256 := by omega
    refine List.mem_map.mpr ⟨row.key - base, List.mem_filter.mpr ⟨List.mem_range.mpr hlt, ?_⟩, hkey⟩
    rwa [lookupKey_isSome_iff, hpage _ hlt, hkey]

/-- A key of a page is unmapped or has a row of its own. -/
theorem length_unmapped_add_length_rows (hpage : ∀ k < 256, pageTable (base + k) = rows)
    (hkeys : ∀ row ∈ rows, base ≤ row.key ∧ row.key < base + 256) (hnodup : (rows.map OpRow.key).Nodup) :
    ((List.range 256).filter fun k => (lookupKey (base + k)).isNone).length + rows.length = 256 := by
  have hmapped := (mapped_keys_perm hpage hkeys hnodup).length_eq
  have hsplit := List.length_eq_length_filter_add (l := List.range 256) fun k => (lookupKey (base + k)).isSome
  simp only [List.length_map, List.length_range, Option.not_isSome] at hmapped hsplit
  omega

end

theorem lookupKey_unmappedPage1 {key : Nat} (h : key ∈ unmappedPage1) : lookupKey key = none := by
  rw [lookupKey_eq_find?_blockRows]
  revert key
  decide

theorem page1_mapped_or_unmapped (b0 : Byte) :
    (lookupKey b0.toNat).isSome ∨ b0.toNat ∈ unmappedPage1 ∨ b0 = 0x10 ∨ b0 = 0x11 := by
  rw [lookupKey_eq_find?_blockRows]
  revert b0
  decide

theorem page1_unmapped_iff {b0 : Byte} (h10 : b0 ≠ 0x10) (h11 : b0 ≠ 0x11) :
    lookupKey b0.toNat = none ↔ b0.toNat ∈ unmappedPage1 := by
  refine ⟨fun h => ?_, lookupKey_unmappedPage1⟩
  rcases page1_mapped_or_unmapped b0 with hsome | hmem | rfl | rfl
  · rw [h] at hsome
    cases hsome
  · exact hmem
  · exact absurd rfl h10
  · exact absurd rfl h11

theorem unmappedPage1_not_page_byte {b0 : Byte} (h : b0.toNat ∈ unmappedPage1) : ¬(b0 = 0x10 ∨ b0 = 0x11) := by
  rintro (rfl | rfl) <;> simp [unmappedPage1] at h

theorem decode_unmapped_single {b0 : Byte} (hb : ¬(b0 = 0x10 ∨ b0 = 0x11)) (h : lookupKey b0.toNat = none)
    (rest : List Byte) : decode (b0 :: rest) = .error (.rejected (.invalidOpcode (zext8 b0))) := by
  rw [decode_single hb, keyReader_of_unmapped (by rwa [zext8_toNat])]
  rfl

theorem decode_unmapped_paged {b0 b1 : Byte} (hb : b0 = 0x10 ∨ b0 = 0x11)
    (h : lookupKey (joinBytes b0 b1).toNat = none) (rest : List Byte) :
    decode (b0 :: b1 :: rest) = .error (.rejected (.invalidOpcode (joinBytes b0 b1))) := by
  rw [decode_paged hb, keyReader_of_unmapped h]
  rfl

theorem page2_unmapped_count :
    ((List.range 256).filter fun k => (lookupKey (0x1000 + k)).isNone).length = 218 := by
  have h := length_unmapped_add_length_rows (base := 0x1000) (rows := page2Rows)
    (fun k hk => by rw [pageTable, if_neg (by omega), if_pos (by omega)]) (by decide) (by decide)
  exact Nat.add_right_cancel h

theorem page3_unmapped_count :
    ((List.range 256).filter fun k => (lookupKey (0x1100 + k)).isNone).length = 247 := by
  have h := length_unmapped_add_length_rows (base := 0x1100) (rows := page3Rows)
    (fun k hk => by rw [pageTable, if_neg (by omega), if_neg (by omega)]) (by decide) (by decide)
  exact Nat.add_right_cancel h

/-- Settles O4: an unmapped key has no row, and a postbyte is invalid or begins an operand. -/
theorem undefinedEncodings : Obligations.UndefinedEncodings := by
  refine ⟨fun b0 => page1_unmapped_iff, page2_unmapped_count, page3_unmapped_count, fun b0 rest h => ?_,
    fun b0 b1 rest hb h => decode_unmapped_paged hb h rest, by decide,
    fun f pb rest => decodeList_indexedReader_eq_rejected⟩
  exact decode_unmapped_single (unmappedPage1_not_page_byte h) (lookupKey_unmappedPage1 h) rest

end Sys2Proof

/-! PROOFS. The opcode map against the encoder: every instruction has its row, and every row makes instructions with its
key and operand bytes (30_encoding.md R146). -/

namespace Sys2Proof

open Machine

/-! ### Every row makes instructions with its key -/

theorem Shape.EncodedWith.of_reads {key : Nat} {sh : Shape} {i : Instr} {ops : List Byte} (h : sh.EncodedWith key)
    (hops : sh.Reads i ops) : keyOf i.parts.1 = key ∧ i.parts.2 = ops := by
  suffices hparts : i.parts.map keyOf id = (key, ops) from Prod.mk.inj hparts
  cases sh with
  | inh j =>
    obtain ⟨rfl, rfl⟩ := hops
    exact h
  | byte f =>
    obtain ⟨v, rfl, rfl⟩ := hops
    exact h v
  | word f =>
    obtain ⟨w, rfl, rfl⟩ := hops
    exact h w
  | pair f =>
    obtain ⟨src, dst, rfl, rfl⟩ := hops
    exact h src dst
  | indexed f =>
    obtain ⟨m, rfl, rfl⟩ := hops
    exact h m

/-- The encoder agrees with the map, row by row (30_encoding.md R146). -/
theorem opcodeTable_encodedWith : ∀ row ∈ opcodeTable, row.shape.EncodedWith row.key := by
  simp only [opcodeTable, page1Table, page1Rows01, page1Rows23, page1Rows45, page1Rows67, page1Rows89, page1RowsAB,
    page1RowsCD, page1RowsEF, page2Rows, page3Rows, List.forall_mem_append, List.forall_mem_cons, List.not_mem_nil,
    false_implies, implies_true, and_true, Shape.EncodedWith]
  and_intros <;> intros <;> rfl

theorem pageTable_subset_opcodeTable (key : Nat) : pageTable key ⊆ opcodeTable := by
  intro row h
  rw [opcodeTable, List.mem_append, List.mem_append]
  unfold pageTable at h
  split_ifs at h
  · exact .inl (.inl h)
  · exact .inl (.inr h)
  · exact .inr h

/-- A look-up answers a row of the map with the key that was looked up (30_encoding.md R131). -/
theorem mem_opcodeTable_of_lookupKey {key : Nat} {row : OpRow} (h : lookupKey key = some row) :
    row ∈ opcodeTable ∧ row.key = key :=
  ⟨pageTable_subset_opcodeTable key (List.mem_of_find?_eq_some h), by simpa using List.find?_some h⟩

/-! ### Every instruction has a row -/

theorem Instr.HasRow.of {i : Instr} {op ops : List Byte} {row : OpRow} (hparts : i.parts = (op, ops))
    (hop : isOpcode op = true) (hrow : ((blockRows (keyOf op)).find? fun row => row.key == keyOf op) = some row)
    (hops : row.shape.Reads i ops) : i.HasRow := by
  rw [← lookupKey_eq_find?_blockRows] at hrow
  rw [HasRow, hparts]
  exact ⟨hop, row, hrow, hops⟩

/-- The map has a row for every instruction of the encoder (30_encoding.md R146). -/
theorem Instr.hasRow (i : Instr) : i.HasRow := by
  cases i
  case nop | sync | daa | sex | rts | abx | rti | mul | swi | swi2 | swi3 | nega | coma | lsra | rora | asra | asla
      | rola | deca | inca | tsta | clra | negb | comb | lsrb | rorb | asrb | aslb | rolb | decb | incb | tstb | clrb =>
    exact .of rfl rfl rfl ⟨rfl, rfl⟩
  case orcc v | andcc v | cwai v | pshs v | puls v | pshu v | pulu v | bra v | brn v | bhi v | bls v | bcc v | bcs v
      | bne v | beq v | bvc v | bvs v | bpl v | bmi v | bge v | blt v | bgt v | ble v | bsr v =>
    exact .of rfl rfl rfl ⟨v, rfl, rfl⟩
  case lbra w | lbsr w | lbrn w | lbhi w | lbls w | lbcc w | lbcs w | lbne w | lbeq w | lbvc w | lbvs w | lbpl w
      | lbmi w | lbge w | lblt w | lbgt w | lble w =>
    exact .of rfl rfl rfl ⟨w, rfl, rfl⟩
  case exg src dst | tfr src dst => exact .of rfl rfl rfl ⟨src, dst, rfl, rfl⟩
  case leax m | leay m | leas m | leau m => exact .of rfl rfl rfl ⟨m, rfl, rfl⟩
  case suba m | cmpa m | sbca m | anda m | bita m | lda m | eora m | adca m | ora m | adda m | subb m | cmpb m | sbcb m
      | andb m | bitb m | ldb m | eorb m | adcb m | orb m | addb m =>
    rcases m with v | lo | m | a
    · exact .of rfl rfl rfl ⟨v, rfl, rfl⟩
    · exact .of rfl rfl rfl ⟨lo, rfl, rfl⟩
    · exact .of rfl rfl rfl ⟨m, rfl, rfl⟩
    · exact .of rfl rfl rfl ⟨a, rfl, rfl⟩
  case subd m | cmpx m | ldx m | addd m | ldd m | ldu m | cmpd m | cmpy m | ldy m | lds m | cmpu m | cmps m =>
    rcases m with v | lo | m | a
    · exact .of rfl rfl rfl ⟨v, rfl, rfl⟩
    · exact .of rfl rfl rfl ⟨lo, rfl, rfl⟩
    · exact .of rfl rfl rfl ⟨m, rfl, rfl⟩
    · exact .of rfl rfl rfl ⟨a, rfl, rfl⟩
  case neg e | com e | lsr e | ror e | asr e | asl e | rol e | dec e | inc e | tst e | jmp e | clr e | sta e | jsr e
      | stx e | stb e | std e | stu e | sty e | sts e =>
    rcases e with lo | m | a
    · exact .of rfl rfl rfl ⟨lo, rfl, rfl⟩
    · exact .of rfl rfl rfl ⟨m, rfl, rfl⟩
    · exact .of rfl rfl rfl ⟨a, rfl, rfl⟩

/-- An instruction is encoded by the opcode bytes and the operand bytes from which a row makes it. -/
theorem Instr.encode_of_reads {i : Instr} {op ops : List Byte} {row : OpRow} (hop : isOpcode op = true)
    (hrow : lookupKey (keyOf op) = some row) (hops : row.shape.Reads i ops) : encode i = op ++ ops := by
  obtain ⟨hmem, hkey⟩ := mem_opcodeTable_of_lookupKey hrow
  obtain ⟨hop', -⟩ := i.hasRow
  obtain ⟨hparts, hext⟩ := (opcodeTable_encodedWith row hmem).of_reads hops
  rw [encode, hext, isOpcode_keyOf_injective hop' hop (hparts.trans hkey)]

/-! ### The round trip -/

/-- Settles O1: an instruction's bytes are opcode bytes of its row and the operand bytes from which the row makes it. -/
theorem decodeEncode : Obligations.DecodeEncode := by
  intro i rest
  obtain ⟨hop, row, hrow, hops⟩ := i.hasRow
  exact decode_eq_ok_iff.mpr ⟨_, row, _, hop, hrow, hops, rfl⟩

/-- Settles O2: the row that makes the instruction has its key, and distinct opcode bytes form distinct keys. -/
theorem encodeDecode : Obligations.EncodeDecode := by
  intro bs i rest h
  obtain ⟨op, row, ops, hop, hrow, hops, rfl⟩ := decode_eq_ok_iff.mp h
  rw [Instr.encode_of_reads hop hrow hops]

/-- Settles O3: each word is the encoding of the instruction it stands for. -/
theorem decodeSampleWords : Obligations.DecodeSampleWords :=
  ⟨decodeEncode (.lda (.imm 0x2A)) [], decodeEncode (.sta (.ext 0x1234)) [],
    decodeEncode (.ldy (.mem (.idx (.reg .x false (.off16 0x1234))))) [],
    decodeEncode (.com (.idx (.reg .y false .zero))) [], decodeEncode (.lbeq 0xFFFE) [], decodeEncode (.tfr 8 11) [],
    decodeEncode (.puls 0x96) [], decodeEncode .swi3 [0x12]⟩

end Sys2Proof

/-! PROOFS. The operand forms' addresses as sums over the integers (40_addressing_modes.md R174 to R194): every indexed form
adds a displacement to a base, every auto form moves its base register by a fixed step, and indirection reads a word. -/

namespace Sys2Proof.Machine

/-! ### Sums modulo 2^16 -/

/-- The low 16 bits of the exact sum of an address and a signed displacement (20_memory.md R87). -/
def displace (a : Word) (n : Int) : Word := BitVec.ofInt 16 ((a.toNat : Int) + n)

theorem displace_eq_add (a : Word) (n : Int) : displace a n = a + BitVec.ofInt 16 n := by
  rw [displace, BitVec.ofInt_add, BitVec.ofInt_natCast, BitVec.ofNat_toNat, BitVec.setWidth_eq]

@[simp] theorem displace_zero (a : Word) : displace a 0 = a := by simp [displace_eq_add]

theorem add_sext5 (a : Word) (n : BitVec 5) : a + sext5 n = displace a n.toInt := (displace_eq_add a n.toInt).symm

theorem add_sext8 (a : Word) (n : Byte) : a + sext8 n = displace a n.toInt := (displace_eq_add a n.toInt).symm

theorem add_eq_displace (a n : Word) : a + n = displace a n.toInt := by rw [displace_eq_add, BitVec.ofInt_toInt]

theorem sub_eq_displace (a : Word) (k : Nat) : a - BitVec.ofNat 16 k = displace a (-k) := by
  rw [displace_eq_add, BitVec.ofInt_neg, BitVec.ofInt_natCast, BitVec.sub_eq_add_neg]

/-! ### The base register and memory through a change of `busy` and through an indirection -/

@[simp] theorem State.base_addBusy (s : State) (n : Nat) (r : IdxReg) : (s.addBusy n).base r = s.base r := by
  cases r <;> rfl

/-- What every auto form leaves in its base register. -/
theorem State.base_setBase_addBusy (s : State) (r : IdxReg) (w : Word) (n : Nat) :
    ((s.setBase r w).addBusy n).base r = w := by
  simp

@[simp] theorem State.base_indirect (ind : Bool) (p : Addr × State) (r : IdxReg) :
    (indirect ind p).2.base r = p.2.base r := by
  cases r
  case x => exact indirect_x ind p
  case y => exact indirect_y ind p
  case u => exact indirect_u ind p
  case s => exact indirect_sp ind p

theorem State.peek_addBusy (s : State) (n : Nat) (a : Addr) : (s.addBusy n).peek a = s.peek a := rfl

/-- An indirection whose pointer bytes are defined gives the pointer. -/
theorem indirect_true_of_peek {p : Addr × State} {hi lo : Byte} (hhi : p.2.peek p.1 = some hi)
    (hlo : p.2.peek (p.1 + 1) = some lo) : (indirect true p).1 = joinBytes hi lo :=
  congrArg Prod.fst (read16_of_peek hhi hlo)

/-! ### The submodes over a base register -/

/-- What a submode adds to the base register for the address (R182, R184 to R190). -/
def IdxMode.displacement (s : State) : IdxMode → Int
  | .postInc2 | .zero => 0
  | .preDec2 => -2
  | .accA => s.a.toInt
  | .accB => s.b.toInt
  | .accD => s.d.toInt
  | .off8 n => n.toInt
  | .off16 n => n.toInt

/-- How far a submode moves the base register (R182, R184). -/
def IdxMode.step : IdxMode → Int
  | .postInc2 => 2
  | .preDec2 => -2
  | .zero | .accA | .accB | .accD | .off8 _ | .off16 _ => 0

theorem IdxMode.ea_fst (m : IdxMode) (r : IdxReg) (s : State) :
    (IdxMode.ea m r s).1 = displace (s.base r) (IdxMode.displacement s m) := by
  cases m
  case postInc2 | zero => exact (displace_zero _).symm
  case preDec2 => exact sub_eq_displace _ 2
  case accA | accB | off8 n => exact add_sext8 _ _
  case accD | off16 n => exact add_eq_displace _ _

theorem IdxMode.ea_base (m : IdxMode) (r : IdxReg) (s : State) :
    (IdxMode.ea m r s).2.base r = displace (s.base r) (IdxMode.step m) := by
  cases m
  case postInc2 => exact (State.base_setBase_addBusy s r _ 3).trans (add_eq_displace _ 2)
  case preDec2 => exact (State.base_setBase_addBusy s r _ 3).trans (sub_eq_displace _ 2)
  case zero => exact (displace_zero _).symm
  case accA | accB | accD | off8 n | off16 n => exact (State.base_addBusy s _ r).trans (displace_zero _).symm

/-! ### The indexed forms -/

/-- Indirect or not, the base register after a form is where its submode leaves it. -/
theorem Indexed.ea_reg_base (m : IdxMode) (r : IdxReg) (ind : Bool) (s : State) :
    (Indexed.ea (.reg r ind m) s).2.base r = displace (s.base r) (IdxMode.step m) :=
  (State.base_indirect ind _ r).trans (IdxMode.ea_base m r s)

theorem Indexed.ea_postInc1_base (r : IdxReg) (s : State) :
    (Indexed.ea (.postInc1 r) s).2.base r = displace (s.base r) 1 :=
  (State.base_setBase_addBusy s r _ 2).trans (add_eq_displace _ 1)

theorem Indexed.ea_preDec1_base (r : IdxReg) (s : State) :
    (Indexed.ea (.preDec1 r) s).2.base r = displace (s.base r) (-1) :=
  (State.base_setBase_addBusy s r _ 2).trans (sub_eq_displace _ 1)

/-- The pointer of `[n16]`, where its bytes are defined (R193). -/
theorem Indexed.ea_extInd_of_peek {s : State} {a : Addr} {hi lo : Byte} (hhi : s.peek a = some hi)
    (hlo : s.peek (a + 1) = some lo) : (Indexed.ea (.extInd a) s).1 = joinBytes hi lo :=
  indirect_true_of_peek (p := (a, s.addBusy 2)) ((s.peek_addBusy 2 a).trans hhi) ((s.peek_addBusy 2 (a + 1)).trans hlo)

/-- A direct address has DP above the operand byte (R174). -/
theorem MemForm.ea_dir_toNat (lo : Byte) (s : State) :
    (MemForm.ea (.dir lo) s).1.toNat = 256 * s.dp.toNat + lo.toNat := by
  have hjoin : (MemForm.ea (.dir lo) s).1.toNat = s.dp.toNat * 256 + lo.toNat := joinBytes_toNat s.dp lo
  omega

/-- Settles O33: each address is its base displaced, each auto form leaves its base register displaced by its step, and an
indirect form reads the word at the address of the direct form in the state after it. -/
theorem operandAddresses : Obligations.OperandAddresses := by
  intro s r
  have hmode (m : IdxMode) : (Indexed.ea (.reg r false m) s).1 = displace (s.base r) (IdxMode.displacement s m) :=
    IdxMode.ea_fst m r s
  have hbase (ind : Bool) (m : IdxMode) := Indexed.ea_reg_base m r ind s
  exact ⟨fun n => add_sext5 _ n,
    rfl, Indexed.ea_postInc1_base r s, sub_eq_displace _ 1, Indexed.ea_preDec1_base r s,
    rfl, hbase false .postInc2, hmode .preDec2, hbase false .preDec2,
    rfl, hmode .accA, hmode .accB, hmode .accD,
    fun n => ⟨hmode (.off8 n), add_sext8 _ n⟩, fun n => ⟨hmode (.off16 n), add_eq_displace _ n⟩,
    fun _ => rfl, hbase true .postInc2, hbase true .preDec2, fun _ => rfl, fun _ => rfl,
    fun _ _ _ hhi hlo => Indexed.ea_extInd_of_peek hhi hlo, fun lo => MemForm.ea_dir_toNat lo s, fun _ => rfl⟩

end Sys2Proof.Machine

/-! PROOFS. Loads, stores, effective addresses, and the registers that TFR and EXG name (41_load_store_transfer.md): the
operation that each instruction is, its flags in the spec's words, and reading a register back after a write by name. -/

namespace Sys2Proof.Machine

/-! ### An instruction ends with the state its operation gives -/

/-- Without DEFRAG an instruction completes in the state its operation gives. -/
theorem completes_of_run {i : Instr} {o : Op} {s t : State} (hop : opOf i = o) (hrun : o.run s = t)
    (hdefrag : (o.run s).defragIssued = false) : Completes (exec i s) t := by
  subst hop hrun
  exact ⟨_, exec_next_iff.mpr ⟨hdefrag, rfl⟩⟩

theorem opOf_loadInstr16 (r : Reg16) (m : Src16) : opOf (loadInstr16 r m) = .load16 r m := by
  cases r <;> rfl

theorem opOf_storeInstr16 (r : Reg16) (e : MemForm) : opOf (storeInstr16 r e) = .store16 r e := by
  cases r <;> rfl

theorem opOf_byAcc_store (r : Acc) (e : MemForm) : opOf (byAcc (.sta e) (.stb e) r) = .store8 r e := by
  cases r <;> rfl

/-! ### The flags of a moved value (41_load_store_transfer.md R210) -/

theorem CC.move8_eq_moved8 (f : CC) (v : Byte) : f.move8 v = moved8 f v := by
  simp [CC.move8, moved8, BitVec.msb_eq_getLsbD_last, beq_eq_decide]

theorem CC.move16_eq_moved16 (f : CC) (w : Word) : f.move16 w = moved16 f w := by
  simp [CC.move16, moved16, BitVec.msb_eq_getLsbD_last, beq_eq_decide]

/-! ### Loads and stores -/

theorem load16_eq (r : Reg16) (m : Src16) (s : State) :
    load16 r m s = { (Src16.read m s).2.loadReg16 r (Src16.read m s).1 with
      cc := moved16 (Src16.read m s).2.cc (Src16.read m s).1 } := by
  rw [load16, CC.move16_eq_moved16]

theorem load16_defragIssued (r : Reg16) (m : Src16) (s : State) : (load16 r m s).defragIssued = s.defragIssued := by
  simp [load16]

/-- Settles O30: each load is `load16` of its register, and a read issues no DEFRAG. -/
theorem loadWords : Obligations.LoadWords := by
  intro r m s hdefrag
  exact completes_of_run (opOf_loadInstr16 r m) (load16_eq r m s) ((load16_defragIssued r m s).trans hdefrag)

/-- The flags of a store come from the register alone; addressing and writing leave CC (R218). -/
theorem store8_eq (r : Acc) (e : MemForm) (s : State) :
    store8 r e s = { busWrite (MemForm.ea e s).2 (MemForm.ea e s).1 ((MemForm.ea e s).2.acc r) with
      cc := moved8 s.cc ((MemForm.ea e s).2.acc r) } := by
  simp only [store8, CC.move8_eq_moved8, busWrite_cc, MemForm.ea_cc]

theorem store16_eq (r : Reg16) (e : MemForm) (s : State) :
    store16 r e s = { write16 (MemForm.ea e s).2 (MemForm.ea e s).1 ((MemForm.ea e s).2.reg16 r) with
      cc := moved16 s.cc ((MemForm.ea e s).2.reg16 r) } := by
  simp only [store16, CC.move16_eq_moved16, write16_cc, MemForm.ea_cc]

/-- An effective address changes no memory map, so a write after it issues DEFRAG where it would have before. -/
theorem MemForm.issuesDefrag_ea (e : MemForm) (s : State) (a : Addr) (v : Byte) :
    (MemForm.ea e s).2.issuesDefrag a v = s.issuesDefrag a v :=
  issuesDefrag_congr (MemForm.ea_cfg e s) a v

theorem store8_defragIssued (r : Acc) (e : MemForm) (s : State) :
    (store8 r e s).defragIssued =
      (s.defragIssued || s.issuesDefrag (MemForm.ea e s).1 ((MemForm.ea e s).2.acc r)) := by
  simp only [store8, busWrite_defragIssued, MemForm.ea_defragIssued, MemForm.issuesDefrag_ea]

theorem store16_defragIssued (r : Reg16) (e : MemForm) (s : State) :
    (store16 r e s).defragIssued =
      (s.defragIssued || s.issuesDefrag (MemForm.ea e s).1 (hiByte ((MemForm.ea e s).2.reg16 r)) ||
        s.issuesDefrag ((MemForm.ea e s).1 + 1) (loByte ((MemForm.ea e s).2.reg16 r))) := by
  simp only [store16, write16_defragIssued, MemForm.ea_defragIssued, MemForm.issuesDefrag_ea]

/-- Settles O31: each store is `store8` or `store16` of its register, whose bytes issue no DEFRAG. -/
theorem stores : Obligations.Stores := by
  constructor
  · intro r e s hdefrag p v hclear
    have hstore : (store8 r e s).defragIssued = false :=
      (store8_defragIssued r e s).trans (Bool.or_eq_false_iff.mpr ⟨hdefrag, hclear⟩)
    exact completes_of_run (opOf_byAcc_store r e) (store8_eq r e s) hstore
  · intro r e s hdefrag p w hhi hlo
    have hstore : (store16 r e s).defragIssued = false :=
      (store16_defragIssued r e s).trans
        (Bool.or_eq_false_iff.mpr ⟨Bool.or_eq_false_iff.mpr ⟨hdefrag, hhi⟩, hlo⟩)
    exact completes_of_run (opOf_storeInstr16 r e) (store16_eq r e s) hstore

/-! ### Effective addresses as values (R225 to R228) -/

/-- Z is written over the flags of before, which addressing leaves. -/
theorem leaZ_eq (r : Reg16) (m : Indexed) (s : State) :
    leaZ r m s = { (Indexed.ea m s).2.loadReg16 r (Indexed.ea m s).1 with
      cc := { s.cc with z := decide ((Indexed.ea m s).1 = 0) } } := by
  simp only [leaZ, Indexed.ea_cc, beq_eq_decide]

theorem leaZ_defragIssued (r : Reg16) (m : Indexed) (s : State) : (leaZ r m s).defragIssued = s.defragIssued := by
  simp [leaZ]

theorem lea_defragIssued (r : Reg16) (m : Indexed) (s : State) : (lea r m s).defragIssued = s.defragIssued := by
  simp [lea]

/-- Settles O32: LEAX and LEAY are `leaZ`, LEAS and LEAU are `lea`, each of its register. -/
theorem loadEffectiveAddress : Obligations.LoadEffectiveAddress := by
  intro m s hdefrag p
  have hleaZ (r : Reg16) : (leaZ r m s).defragIssued = false := (leaZ_defragIssued r m s).trans hdefrag
  have hlea (r : Reg16) : (lea r m s).defragIssued = false := (lea_defragIssued r m s).trans hdefrag
  exact ⟨completes_of_run (o := .leaZ .x m) rfl (leaZ_eq .x m s) (hleaZ .x),
    completes_of_run (o := .leaZ .y m) rfl (leaZ_eq .y m s) (hleaZ .y),
    completes_of_run (o := .lea .s m) rfl rfl (hlea .s), completes_of_run (o := .lea .u m) rfl rfl (hlea .u)⟩

/-! ### Registers by name (R229, R230) -/

/-- An 8-bit register keeps the low byte of what is written, a 16-bit register all of it. -/
theorem State.regRead_regWrite_same (s : State) (q : Reg) (w : Word) :
    (s.regWrite q w).regRead q = if q.width = 8 then zext8 (loByte w) else w := by
  cases q
  case cc => exact congrArg zext8 (CC.toByte_ofByte (loByte w))
  case d => exact s.setD_d w
  all_goals rfl

theorem loByte_zext8 (v : Byte) : loByte (zext8 v) = v := by
  apply BitVec.eq_of_toNat_eq
  rw [loByte_toNat, zext8_toNat]
  exact Nat.mod_eq_of_lt v.isLt

/-- An 8-bit register reads with zeros above its byte, so its low byte is all of it. -/
theorem State.zext8_loByte_regRead (s : State) {r : Reg} (h : r.width = 8) : zext8 (loByte (s.regRead r)) = s.regRead r := by
  cases r
  case a | b | cc | dp => exact congrArg zext8 (loByte_zext8 _)
  all_goals exact absurd h (by decide)

/-- A register takes the whole value of a register of its width. -/
theorem State.regRead_regWrite_of_width {q r : Reg} (h : r.width = q.width) (s t : State) :
    (t.regWrite q (s.regRead r)).regRead q = s.regRead r := by
  rw [State.regRead_regWrite_same]
  split
  · next hq => exact s.zext8_loByte_regRead (h.trans hq)
  · rfl

/-- Registers that share storage are one register, or D and a half of it, which is narrower (10_state.md R21). -/
theorem Reg.shares_eq_false_of_ne {p q : Reg} (hne : p ≠ q) (hwidth : p.width = q.width) : Reg.shares p q = false := by
  rw [← Bool.not_eq_true]
  intro h
  simp only [Reg.shares, Bool.or_eq_true, Bool.and_eq_true, beq_iff_eq] at h
  obtain (rfl | ⟨rfl, rfl | rfl⟩) | ⟨rfl, rfl | rfl⟩ := h
  · exact hne rfl
  all_goals exact absurd hwidth (by decide)

theorem width_eq_of_pairRegs {src dst : BitVec 4} {r q : Reg} (h : pairRegs src dst = some (r, q)) :
    r.width = q.width := by
  unfold pairRegs at h
  split at h
  · split at h
    · next hw =>
      cases h
      exact hw
    · cases h
  · cases h

/-! ### TFR and EXG (R229, R230) -/

section
variable {src dst : BitVec 4} {r q : Reg}

theorem transfer_of_pair (h : pairRegs src dst = some (r, q)) (s : State) :
    transfer src dst s = s.regWrite q (s.regRead r) := by
  simp only [transfer, h]

theorem exchange_of_pair (h : pairRegs src dst = some (r, q)) (s : State) :
    exchange src dst s = (s.regWrite q (s.regRead r)).regWrite r (s.regRead q) := by
  simp only [exchange, h]

theorem transfer_of_badPair (h : pairRegs src dst = none) (s : State) : transfer src dst s = badPair src dst s := by
  simp only [transfer, h]

theorem exchange_of_badPair (h : pairRegs src dst = none) (s : State) : exchange src dst s = badPair src dst s := by
  simp only [exchange, h]

theorem transfer_regRead_destination (h : pairRegs src dst = some (r, q)) (s : State) :
    (transfer src dst s).regRead q = s.regRead r := by
  rw [transfer_of_pair h]
  exact State.regRead_regWrite_of_width (width_eq_of_pairRegs h) s s

/-- The destination is written first, and the write of the source register spares it unless the two are one. -/
theorem exchange_regRead_destination (h : pairRegs src dst = some (r, q)) (s : State) :
    (exchange src dst s).regRead q = s.regRead r := by
  have hwidth := width_eq_of_pairRegs h
  rw [exchange_of_pair h]
  by_cases hqr : q = r
  · subst hqr
    exact State.regRead_regWrite_of_width rfl s _
  · calc ((s.regWrite q (s.regRead r)).regWrite r (s.regRead q)).regRead q
        = (s.regWrite q (s.regRead r)).regRead q :=
          regWrite_sameReg (Reg.shares_eq_false_of_ne hqr hwidth.symm) _ _
      _ = s.regRead r := State.regRead_regWrite_of_width hwidth s s

theorem exchange_regRead_source (h : pairRegs src dst = some (r, q)) (s : State) :
    (exchange src dst s).regRead r = s.regRead q := by
  rw [exchange_of_pair h]
  exact State.regRead_regWrite_of_width (width_eq_of_pairRegs h).symm s _

theorem transfer_defragIssued (src dst : BitVec 4) (s : State) :
    (transfer src dst s).defragIssued = s.defragIssued := by
  unfold transfer
  split <;> simp [badPair]

theorem exchange_defragIssued (src dst : BitVec 4) (s : State) :
    (exchange src dst s).defragIssued = s.defragIssued := by
  unfold exchange
  split <;> simp [badPair]

theorem exec_tfr_eq_next (src dst : BitVec 4) {s : State} (hdefrag : s.defragIssued = false) :
    exec (.tfr src dst) s = .next (transfer src dst s) :=
  exec_next_iff.mpr ⟨(transfer_defragIssued src dst s).trans hdefrag, rfl⟩

theorem exec_exg_eq_next (src dst : BitVec 4) {s : State} (hdefrag : s.defragIssued = false) :
    exec (.exg src dst) s = .next (exchange src dst s) :=
  exec_next_iff.mpr ⟨(exchange_defragIssued src dst s).trans hdefrag, rfl⟩

end

/-- Settles O34: what a register reads after the writes of one width, the frame of a write, and O17 for memory. -/
theorem transferExchange : Obligations.TransferExchange := by
  intro s src dst r q hdefrag hpair
  have htfr := exec_tfr_eq_next src dst hdefrag
  have hexg := exec_exg_eq_next src dst hdefrag
  exact ⟨⟨_, htfr, transfer_regRead_destination hpair s,
      fun _ hq => transfer_sameReg (by simpa [Op.destinations, hpair] using hq) s, storelessFrame _ _ _ rfl htfr⟩,
    ⟨_, hexg, exchange_regRead_destination hpair s, exchange_regRead_source hpair s,
      fun _ hq hr => exchange_sameReg (by simpa [Op.destinations, hpair] using ⟨hr, hq⟩) s, storelessFrame _ _ _ rfl hexg⟩⟩

/-- Settles O7: without a register pair both operations are `badPair`, which raises the fault and writes no register. -/
theorem transferFault : Obligations.TransferFault := by
  intro s src dst hdefrag hpair
  rw [exec_tfr_eq_next src dst hdefrag, exec_exg_eq_next src dst hdefrag, transfer_of_badPair hpair,
    exchange_of_badPair hpair]
  exact ⟨rfl, rfl⟩

end Sys2Proof.Machine

/-! PROOFS. Results and flags of the arithmetic and of the shifts, in the words of the rules (42_arithmetic.md,
43_logic_shift.md): the model computes on bit vectors, the rules on numbers. -/

namespace Sys2Proof.Machine

/-! ### Sums and differences as numbers (42_arithmetic.md R260 to R263) -/

theorem bitVec_ofInt_sub {w : Nat} (x y : Int) : BitVec.ofInt w (x - y) = BitVec.ofInt w x - BitVec.ofInt w y := by
  rw [Int.sub_eq_add_neg, BitVec.ofInt_add, BitVec.ofInt_neg, BitVec.sub_eq_add_neg]

theorem add8_eq_ofNat (a m : Byte) (c : Bool) :
    add8 a m c = BitVec.ofNat 8 ((a.toNat + m.toNat + c.toNat) % 256) := by
  apply BitVec.eq_of_toNat_eq
  rw [add8_toNat, BitVec.toNat_ofNat, Nat.mod_mod]

theorem sub8_eq_ofInt (a m : Byte) (c : Bool) :
    sub8 a m c = BitVec.ofInt 8 ((a.toNat : Int) - m.toNat - c.toNat) := by
  simp only [sub8, bitVec_ofInt_sub, BitVec.ofInt_natCast, BitVec.ofNat_toNat, BitVec.setWidth_eq]

theorem word_add_eq_ofNat (a m : Word) : a + m = BitVec.ofNat 16 ((a.toNat + m.toNat) % 65536) := by
  apply BitVec.eq_of_toNat_eq
  rw [BitVec.toNat_add, BitVec.toNat_ofNat, Nat.mod_mod]

theorem word_sub_eq_ofInt (a m : Word) : a - m = BitVec.ofInt 16 ((a.toNat : Int) - m.toNat) := by
  simp only [bitVec_ofInt_sub, BitVec.ofInt_natCast, BitVec.ofNat_toNat, BitVec.setWidth_eq]

/-! ### Tests as the rules write them -/

theorem byte_msb (r : Byte) : r.msb = r.getLsbD 7 := BitVec.msb_eq_getLsbD_last r

theorem word_msb (r : Word) : r.msb = r.getLsbD 15 := BitVec.msb_eq_getLsbD_last r

theorem bne_eq_decide_ne {α : Type} [DecidableEq α] (x y : α) : (x != y) = decide (x ≠ y) := by
  rw [bne, beq_eq_decide, decide_not]

/-! ### The flags of the adders and subtractors (42_arithmetic.md R260 to R263) -/

theorem CC.add8_eq (cc : CC) (a m : Byte) (c : Bool) : cc.add8 a m c = { cc with
    h := decide (a.toNat % 16 + m.toNat % 16 + c.toNat > 15)
    n := (Machine.add8 a m c).getLsbD 7
    z := decide (Machine.add8 a m c = 0x00)
    v := decide (a.getLsbD 7 = m.getLsbD 7) && decide ((Machine.add8 a m c).getLsbD 7 ≠ a.getLsbD 7)
    c := decide (a.toNat + m.toNat + c.toNat > 255) } := by
  simp only [CC.add8, byte_msb, beq_eq_decide, bne_eq_decide_ne, gt_iff_lt]

theorem CC.sub8_eq (cc : CC) (h : Bool) (a m : Byte) (c : Bool) : cc.sub8 h a m c = { cc with
    h := h
    n := (Machine.sub8 a m c).getLsbD 7
    z := decide (Machine.sub8 a m c = 0x00)
    v := decide (a.getLsbD 7 ≠ m.getLsbD 7) && decide ((Machine.sub8 a m c).getLsbD 7 ≠ a.getLsbD 7)
    c := decide (a.toNat < m.toNat + c.toNat) } := by
  simp only [CC.sub8, byte_msb, beq_eq_decide, bne_eq_decide_ne]

theorem add16Rule_eq (cc : CC) (a m : Word) : add16Rule cc a m = (a + m, cc.add16 a m) := by
  simp only [CC.add16, word_msb, beq_eq_decide, bne_eq_decide_ne, word_add_eq_ofNat]
  rfl

theorem sub16Rule_eq (cc : CC) (a m : Word) : sub16Rule cc a m = (a - m, cc.sub16 a m) := by
  simp only [CC.sub16, word_msb, beq_eq_decide, bne_eq_decide_ne, word_sub_eq_ofInt]
  rfl

/-! ### The one-operand operations (42_arithmetic.md R281 to R287, 43_logic_shift.md R329 to R344) -/

theorem zero_sub_eq_ofInt (m : Byte) : 0 - m = BitVec.ofInt 8 (0 - (m.toNat : Int)) := by
  rw [bitVec_ofInt_sub, BitVec.ofInt_natCast, BitVec.ofNat_toNat, BitVec.setWidth_eq]
  rfl

theorem add_one_eq_ofNat (m : Byte) : m + 1 = BitVec.ofNat 8 ((m.toNat + 1) % 256) := by
  apply BitVec.eq_of_toNat_eq
  rw [BitVec.toNat_add, BitVec.toNat_ofNat, Nat.mod_mod]
  rfl

theorem sub_one_eq_ofInt (m : Byte) : m - 1 = BitVec.ofInt 8 ((m.toNat : Int) - 1) := by
  rw [bitVec_ofInt_sub, BitVec.ofInt_natCast, BitVec.ofNat_toNat, BitVec.setWidth_eq]
  rfl

theorem not_eq_ofNat (m : Byte) : ~~~m = BitVec.ofNat 8 (255 - m.toNat) := by
  apply BitVec.eq_of_toNat_eq
  rw [BitVec.toNat_not, BitVec.toNat_ofNat]
  omega

theorem shiftLeft_one_eq_ofNat (m : Byte) : m <<< 1 = BitVec.ofNat 8 (2 * m.toNat % 256) := by
  apply BitVec.eq_of_toNat_eq
  rw [BitVec.toNat_shiftLeft, Nat.shiftLeft_eq, pow_one, Nat.mul_comm, BitVec.toNat_ofNat, Nat.mod_mod]

theorem shiftRight_one_eq_ofNat (m : Byte) : m >>> 1 = BitVec.ofNat 8 (m.toNat / 2) := by
  apply BitVec.eq_of_toNat_eq
  rw [BitVec.toNat_ushiftRight, Nat.shiftRight_eq_div_pow, BitVec.toNat_ofNat]
  omega

theorem asr8_eq_ofInt (m : Byte) : asr8 m = BitVec.ofInt 8 (m.toInt / 2) := by
  rw [asr8, BitVec.sshiftRight, Int.shiftRight_eq_div_pow]
  rfl

/-- A flag as a byte has it in bit 0 alone. -/
theorem getLsbD_ite_one (c : Bool) (i : Nat) : (if c then 1 else 0 : Byte).getLsbD i = (decide (i = 0) && c) := by
  cases c <;> simp [BitVec.getLsbD_one]

theorem rol8_eq_or (m : Byte) (c : Bool) : rol8 m c = m <<< 1 ||| (if c then 1 else 0 : Byte) := by
  apply BitVec.eq_of_getLsbD_eq
  intro i hi
  rw [BitVec.getLsbD_or, BitVec.getLsbD_shiftLeft, getLsbD_ite_one]
  refine BitVec.getLsbD_append.trans ?_
  cases i with
  | zero => simp
  | succ i => simp [hi, Nat.lt_of_succ_lt_succ hi]

theorem ror8_eq_or (m : Byte) (c : Bool) : ror8 m c = m >>> 1 ||| (if c then 1 else 0 : Byte) <<< 7 := by
  apply BitVec.eq_of_getLsbD_eq
  intro i hi
  rw [BitVec.getLsbD_or, BitVec.getLsbD_ushiftRight, BitVec.getLsbD_shiftLeft, getLsbD_ite_one]
  refine BitVec.getLsbD_append.trans ?_
  obtain hlow | rfl : i < 7 ∨ i = 7 := by omega
  · simp [hlow]
  · simp

/-- Each rule is the model's operation of its name. -/
theorem UnaryOp.rule_eq (op : UnaryOp) (cc : CC) (h : Bool) (m : Byte) :
    op.rule cc h m = (op.unary.result m cc.c, op.unary.flags cc h m) := by
  cases op
  case neg =>
    simp only [UnaryOp.rule, UnaryOp.unary, Unary.neg, byte_msb, beq_eq_decide, bne_eq_decide_ne, zero_sub_eq_ofInt]
  case inc => simp only [UnaryOp.rule, UnaryOp.unary, Unary.inc, byte_msb, beq_eq_decide, add_one_eq_ofNat]
  case dec => simp only [UnaryOp.rule, UnaryOp.unary, Unary.dec, byte_msb, beq_eq_decide, sub_one_eq_ofInt]
  case com => simp only [UnaryOp.rule, UnaryOp.unary, Unary.com, byte_msb, beq_eq_decide, not_eq_ofNat]
  case lsr => simp only [UnaryOp.rule, UnaryOp.unary, Unary.lsr, beq_eq_decide, shiftRight_one_eq_ofNat]
  case asr => simp only [UnaryOp.rule, UnaryOp.unary, Unary.asr, byte_msb, beq_eq_decide, asr8_eq_ofInt]
  case asl => simp only [UnaryOp.rule, UnaryOp.unary, Unary.asl, byte_msb, beq_eq_decide, shiftLeft_one_eq_ofNat]
  case rol =>
    simp only [UnaryOp.rule, UnaryOp.unary, Unary.rol, byte_msb, beq_eq_decide, rol8_eq_or, shiftLeft_one_eq_ofNat]
  case ror =>
    simp only [UnaryOp.rule, UnaryOp.unary, Unary.ror, byte_msb, beq_eq_decide, ror8_eq_or, shiftRight_one_eq_ofNat]

/-! ### MUL, SEX, ABX (42_arithmetic.md R296, R298, R299) -/

theorem CC.mul_eq (cc : CC) (p : Word) : cc.mul p = { cc with z := decide (p = 0), c := p.getLsbD 7 } := by
  rw [CC.mul, beq_eq_decide]

theorem CC.sex_eq (cc : CC) (clearsV : Bool) (d : Word) : cc.sex clearsV d = { cc with
    n := d.getLsbD 15
    z := decide (d = 0)
    v := if clearsV then false else cc.v } := by
  cases clearsV <;> simp [CC.sex, word_msb, beq_eq_decide]

/-- The byte that SEX puts above B makes the pair B's signed value. -/
theorem joinBytes_sexByte (b : Byte) : joinBytes (sexByte b) b = BitVec.ofInt 16 b.toInt := by
  have hb := b.isLt
  apply BitVec.eq_of_toNat_eq
  rw [joinBytes_toNat, sexByte, msb_eq_decide_toNat, toInt_byte, BitVec.toNat_ofInt]
  by_cases hneg : 128 ≤ b.toNat
  · simp [hneg]
    omega
  · simp [hneg]
    omega

theorem add_zext8_eq_ofNat (x : Word) (b : Byte) :
    x + zext8 b = BitVec.ofNat 16 ((x.toNat + b.toNat) % 65536) := by
  rw [word_add_eq_ofNat, zext8_toNat]

/-! ### DAA (42_arithmetic.md R297) -/

/-- The two halves of the correction have no bit in common, so the correction is their sum. -/
theorem daaCorrection_toNat (a : Byte) (h c : Bool) : (daaCorrection a h c).toNat =
    (if h = true ∨ 9 < a.toNat % 16 then 0x06 else 0) +
      (if c = true ∨ 9 < a.toNat / 16 ∨ (8 < a.toNat / 16 ∧ 9 < a.toNat % 16) then 0x60 else 0) := by
  unfold daaCorrection
  dsimp only
  split <;> split <;> rfl

theorem daa8_eq_ofNat (a : Byte) (h c : Bool) :
    daa8 a h c = BitVec.ofNat 8 ((a.toNat + (daaCorrection a h c).toNat) % 256) := by
  apply BitVec.eq_of_toNat_eq
  rw [daa8, BitVec.toNat_add, BitVec.toNat_ofNat, Nat.mod_mod]

theorem CC.daa_eq (cc : CC) (v : Bool) (a : Byte) : cc.daa v a = { cc with
    n := (daa8 a cc.h cc.c).getLsbD 7
    z := decide (daa8 a cc.h cc.c = 0)
    v := v
    c := cc.c || decide (a.toNat + (daaCorrection a cc.h cc.c).toNat > 255) } := by
  simp only [CC.daa, byte_msb, beq_eq_decide, gt_iff_lt]

/-! ### Packed decimal sums: `lo` the sum of the low digits with the carry in, `hi` that of the high digits -/

section
variable {lo hi : Nat}

/-- The half-carry and the low nibble of the binary sum tell that the low decimal digit carries. -/
theorem lowDigit_carries_iff (hlo : lo ≤ 19) : 15 < lo ∨ 9 < (16 * hi + lo) % 256 % 16 ↔ 9 < lo := by
  omega

/-- The carry and the nibbles of the binary sum tell that the decimal sum leaves its two digits. -/
theorem highDigit_carries_iff (hlo : lo ≤ 19) (hhi : hi ≤ 18) :
    255 < 16 * hi + lo ∨ 9 < (16 * hi + lo) % 256 / 16 ∨
      (8 < (16 * hi + lo) % 256 / 16 ∧ 9 < (16 * hi + lo) % 256 % 16) ↔ 99 < 10 * hi + lo := by
  omega

theorem lowCorrection_eq (hlo : lo ≤ 19) : (if 9 < lo then 0x06 else 0) = 6 * (lo / 10) := by
  split <;> omega

theorem highCorrection_eq (hlo : lo ≤ 19) (hhi : hi ≤ 18) :
    (if 99 < 10 * hi + lo then 0x60 else 0) = 96 * ((10 * hi + lo) / 100) := by
  split <;> omega

/-- Six more for each decimal carry turns the binary sum into the packed decimal sum. -/
theorem packedSum_corrected (hi lo : Nat) :
    16 * hi + lo + (6 * (lo / 10) + 96 * ((10 * hi + lo) / 100)) =
      256 * ((10 * hi + lo) / 100) + (16 * ((10 * hi + lo) % 100 / 10) + (10 * hi + lo) % 10) := by
  omega

/-- The binary addition or the correction carries out of the byte exactly where the decimal sum leaves its two digits. -/
theorem packedSum_carries_iff (hlo : lo ≤ 19) (hhi : hi ≤ 18) :
    255 < 16 * hi + lo ∨ 255 < (16 * hi + lo) % 256 + (6 * (lo / 10) + 96 * ((10 * hi + lo) / 100)) ↔
      99 < 10 * hi + lo := by
  rw [← lowCorrection_eq hlo, ← highCorrection_eq hlo hhi]
  split_ifs <;> omega

end

/-- The byte of two decimal digits. -/
def packedByte (x1 x0 : Nat) : Byte := BitVec.ofNat 8 (16 * x1 + x0)

theorem packedByte_toNat {x1 x0 : Nat} (h1 : x1 < 10) (h0 : x0 < 10) : (packedByte x1 x0).toNat = 16 * x1 + x0 := by
  rw [packedByte, BitVec.toNat_ofNat]
  omega

section
variable {x1 x0 y1 y0 : Nat}

theorem add8_packedByte_toNat (hx1 : x1 < 10) (hx0 : x0 < 10) (hy1 : y1 < 10) (hy0 : y0 < 10) (c : Bool) :
    (add8 (packedByte x1 x0) (packedByte y1 y0) c).toNat = (16 * (x1 + y1) + (x0 + y0 + c.toNat)) % 256 := by
  rw [add8_toNat, packedByte_toNat hx1 hx0, packedByte_toNat hy1 hy0]
  omega

theorem CC.add8_packedByte_h (hx1 : x1 < 10) (hx0 : x0 < 10) (hy1 : y1 < 10) (hy0 : y0 < 10) (cc : CC) (c : Bool) :
    (cc.add8 (packedByte x1 x0) (packedByte y1 y0) c).h = true ↔ 15 < x0 + y0 + c.toNat := by
  simp only [CC.add8, packedByte_toNat hx1 hx0, packedByte_toNat hy1 hy0, decide_eq_true_eq]
  omega

theorem CC.add8_packedByte_c (hx1 : x1 < 10) (hx0 : x0 < 10) (hy1 : y1 < 10) (hy0 : y0 < 10) (cc : CC) (c : Bool) :
    (cc.add8 (packedByte x1 x0) (packedByte y1 y0) c).c = true ↔ 255 < 16 * (x1 + y1) + (x0 + y0 + c.toNat) := by
  simp only [CC.add8, packedByte_toNat hx1 hx0, packedByte_toNat hy1 hy0, decide_eq_true_eq]
  omega

/-- After a packed addition DAA adds 6 for a carry out of the low digit and 60 hexadecimal for one out of the high digit. -/
theorem daaCorrection_packed (hx1 : x1 < 10) (hx0 : x0 < 10) (hy1 : y1 < 10) (hy0 : y0 < 10) (cc : CC) (c : Bool) :
    (daaCorrection (add8 (packedByte x1 x0) (packedByte y1 y0) c)
      (cc.add8 (packedByte x1 x0) (packedByte y1 y0) c).h (cc.add8 (packedByte x1 x0) (packedByte y1 y0) c).c).toNat =
      6 * ((x0 + y0 + c.toNat) / 10) + 96 * ((10 * (x1 + y1) + (x0 + y0 + c.toNat)) / 100) := by
  have hc := Bool.toNat_le c
  have hlo : x0 + y0 + c.toNat ≤ 19 := by omega
  have hhi : x1 + y1 ≤ 18 := by omega
  simp only [daaCorrection_toNat, CC.add8_packedByte_h hx1 hx0 hy1 hy0, CC.add8_packedByte_c hx1 hx0 hy1 hy0,
    add8_packedByte_toNat hx1 hx0 hy1 hy0, lowDigit_carries_iff hlo, highDigit_carries_iff hlo hhi,
    lowCorrection_eq hlo, highCorrection_eq hlo hhi]

theorem daa8_packed (hx1 : x1 < 10) (hx0 : x0 < 10) (hy1 : y1 < 10) (hy0 : y0 < 10) (cc : CC) (c : Bool) :
    daa8 (add8 (packedByte x1 x0) (packedByte y1 y0) c)
      (cc.add8 (packedByte x1 x0) (packedByte y1 y0) c).h (cc.add8 (packedByte x1 x0) (packedByte y1 y0) c).c =
      packedByte ((10 * (x1 + y1) + (x0 + y0 + c.toNat)) % 100 / 10) ((10 * (x1 + y1) + (x0 + y0 + c.toNat)) % 10) := by
  apply BitVec.eq_of_toNat_eq
  rw [daa8, BitVec.toNat_add, daaCorrection_packed hx1 hx0 hy1 hy0, add8_packedByte_toNat hx1 hx0 hy1 hy0, Nat.mod_add_mod,
    packedSum_corrected, Nat.mul_add_mod, packedByte, BitVec.toNat_ofNat]

theorem CC.daa_packed_c (hx1 : x1 < 10) (hx0 : x0 < 10) (hy1 : y1 < 10) (hy0 : y0 < 10) (cc : CC) (c v : Bool) :
    ((cc.add8 (packedByte x1 x0) (packedByte y1 y0) c).daa v
      (Machine.add8 (packedByte x1 x0) (packedByte y1 y0) c)).c = true ↔
      99 < 10 * (x1 + y1) + (x0 + y0 + c.toNat) := by
  have hc := Bool.toNat_le c
  have hlo : x0 + y0 + c.toNat ≤ 19 := by omega
  have hhi : x1 + y1 ≤ 18 := by omega
  simp only [CC.daa, Bool.or_eq_true, decide_eq_true_eq, CC.add8_packedByte_c hx1 hx0 hy1 hy0,
    daaCorrection_packed hx1 hx0 hy1 hy0, add8_packedByte_toNat hx1 hx0 hy1 hy0, packedSum_carries_iff hlo hhi]

end

end Sys2Proof.Machine

/-! PROOFS. The arithmetic and logical instructions (42_arithmetic.md, 43_logic_shift.md): the operation that each one is, and
the state it ends in, by the rule of the operation. -/

namespace Sys2Proof.Machine

/-- An instruction completes in the state its operation gives, where that state has issued no DEFRAG. -/
theorem completes_of_run_eq {i : Instr} {o : Op} {s t : State} (hop : opOf i = o) (hrun : o.run s = t)
    (hdefrag : t.defragIssued = false) : Completes (exec i s) t :=
  completes_of_run hop hrun (hrun.symm ▸ hdefrag)

/-- Writing back what an accumulator holds changes nothing: the compares and tests discard their result. -/
theorem State.setAcc_acc (s : State) (r : Acc) : s.setAcc r (s.acc r) = s := by
  cases r <;> rfl

/-! ### An accumulator and a byte (41_load_store_transfer.md R211, 42_arithmetic.md R264 to R273, 43_logic_shift.md R321
to R328) -/

/-- The operation of a name, on an accumulator and a byte operand. -/
def AccOp.toOp (op : AccOp) (r : Acc) (m : Src8) : Op :=
  match op with
  | .ld => .load8 r m
  | .add => .addAcc r false m
  | .adc => .addAcc r true m
  | .sub => .subAcc r false m
  | .sbc => .subAcc r true m
  | .cmp => .cmpAcc r m
  | .and => .logicAcc (fun a m => a &&& m) r m
  | .or => .logicAcc (fun a m => a ||| m) r m
  | .eor => .logicAcc (fun a m => a ^^^ m) r m
  | .bit => .bitTest r m

theorem opOf_accOp (op : AccOp) (r : Acc) (m : Src8) : opOf (op.instr r m) = op.toOp r m := by
  cases op <;> cases r <;> rfl

section
variable (r : Acc) (m : Src8) (s : State)

/-- An operation that draws no free value ends with the result and the flags of its rule. -/
theorem AccOp.run_of_not_subtracts {op : AccOp} (hop : op.subtracts = false) (h : Bool) :
    (op.toOp r m).run s =
      { (Src8.read m s).2.setAcc r
          (op.rule (Src8.read m s).2.cc h ((Src8.read m s).2.acc r) (Src8.read m s).1).1 with
        cc := (op.rule (Src8.read m s).2.cc h ((Src8.read m s).2.acc r) (Src8.read m s).1).2 } := by
  cases op
  case sub | sbc | cmp => cases hop
  case ld => simp only [AccOp.toOp, Op.run, load8, CC.move8_eq_moved8, AccOp.rule, moved8]
  case add | adc =>
    simp only [AccOp.toOp, Op.run, addAcc, CC.add8_eq, add8_eq_ofNat]
    rfl
  case and | or | eor => simp only [AccOp.toOp, Op.run, logicAcc, CC.move8_eq_moved8, AccOp.rule, moved8]
  case bit =>
    simp only [AccOp.toOp, Op.run, bitTest, CC.move8_eq_moved8, AccOp.rule, moved8, State.setAcc_acc]

/-- A subtraction takes the next free value for H. -/
theorem AccOp.run_of_subtracts {op : AccOp} (hop : op.subtracts = true) :
    (op.toOp r m).run s =
      { (Src8.read m s).2.setAcc r (op.rule (Src8.read m s).2.cc (Config.freeFlag (Src8.read m s).2.draws)
          ((Src8.read m s).2.acc r) (Src8.read m s).1).1 with
        cc := (op.rule (Src8.read m s).2.cc (Config.freeFlag (Src8.read m s).2.draws)
          ((Src8.read m s).2.acc r) (Src8.read m s).1).2
        draws := (Src8.read m s).2.draws + 1 } := by
  cases op
  case sub | sbc =>
    simp only [AccOp.toOp, Op.run, subAcc, sub8Flags, CC.sub8_eq, sub8_eq_ofInt]
    cases r <;> rfl
  case cmp =>
    simp only [AccOp.toOp, Op.run, cmpAcc, sub8Flags, CC.sub8_eq, sub8_eq_ofInt, AccOp.rule, State.setAcc_acc]
    rfl
  all_goals cases hop

end

/-- Settles O21: each instruction is the operation of its name, whose formulas are those of the rule. -/
theorem accumulatorOperations : Obligations.AccumulatorOperations := by
  intro op r m s h hop hdefrag
  exact completes_of_run_eq (opOf_accOp op r m) (AccOp.run_of_not_subtracts r m s hop h) (by simpa using hdefrag)

/-- Settles O22, as O21, with H the next free value. -/
theorem accumulatorSubtracts : Obligations.AccumulatorSubtracts := by
  intro op r m s hop hdefrag
  exact completes_of_run_eq (opOf_accOp op r m) (AccOp.run_of_subtracts r m s hop) (by simpa using hdefrag)

/-! ### Words (42_arithmetic.md R274 to R280) -/

theorem opOf_compareInstr16 (r : Reg16) (m : Src16) : opOf (compareInstr16 r m) = .cmp16 r m := by
  cases r <;> rfl

theorem addD_eq (m : Src16) (s : State) :
    addD m s = { (Src16.read m s).2.setD
        (add16Rule (Src16.read m s).2.cc (Src16.read m s).2.d (Src16.read m s).1).1 with
      cc := (add16Rule (Src16.read m s).2.cc (Src16.read m s).2.d (Src16.read m s).1).2 } := by
  rw [add16Rule_eq, addD]

theorem subD_eq (m : Src16) (s : State) :
    subD m s = { (Src16.read m s).2.setD
        (sub16Rule (Src16.read m s).2.cc (Src16.read m s).2.d (Src16.read m s).1).1 with
      cc := (sub16Rule (Src16.read m s).2.cc (Src16.read m s).2.d (Src16.read m s).1).2 } := by
  rw [sub16Rule_eq, subD]

theorem cmp16_eq (r : Reg16) (m : Src16) (s : State) :
    cmp16 r m s = { (Src16.read m s).2 with
      cc := (sub16Rule (Src16.read m s).2.cc ((Src16.read m s).2.reg16 r) (Src16.read m s).1).2 } := by
  rw [sub16Rule_eq, cmp16]

/-- Settles O23: the model's sums and differences modulo 2^16 are those of R262 and R263. -/
theorem wordArithmetic : Obligations.WordArithmetic := by
  refine ⟨fun m s hdefrag => ?_, fun m s hdefrag => ?_, fun r m s hdefrag => ?_⟩
  · exact completes_of_run_eq (o := .addD m) rfl (addD_eq m s) (by simpa using hdefrag)
  · exact completes_of_run_eq (o := .subD m) rfl (subD_eq m s) (by simpa using hdefrag)
  · exact completes_of_run_eq (opOf_compareInstr16 r m) (cmp16_eq r m s) (by simpa using hdefrag)

/-! ### One operand (42_arithmetic.md R281 to R289, 43_logic_shift.md R329 to R346) -/

theorem opOf_accInstr (op : UnaryOp) (r : Acc) : opOf (op.accInstr r) = .unaryAcc op r := by
  cases op <;> cases r <;> rfl

theorem opOf_memInstr (op : UnaryOp) (e : MemForm) : opOf (op.memInstr e) = .unaryMem op e := by
  cases op <;> rfl

/-- An operation takes a free value exactly where its rule leaves H; the others make no use of `h`. -/
theorem unaryFlags_eq (op : UnaryOp) (m : Byte) (s : State) :
    unaryFlags op.unary m s = { s with
      cc := (op.rule s.cc (Config.freeFlag s.draws) m).2
      draws := if op.leavesH then s.draws + 1 else s.draws } := by
  rw [UnaryOp.rule_eq]
  cases op <;> rfl

theorem unaryAcc_eq (op : UnaryOp) (r : Acc) (s : State) :
    unaryAcc op.unary r s = { s.setAcc r (op.rule s.cc (Config.freeFlag s.draws) (s.acc r)).1 with
      cc := (op.rule s.cc (Config.freeFlag s.draws) (s.acc r)).2
      draws := if op.leavesH then s.draws + 1 else s.draws } := by
  rw [unaryAcc, unaryFlags_eq, UnaryOp.rule_eq]
  cases r <;> rfl

/-- Settles O25: the operation's formulas are those of its rule. -/
theorem unaryAccumulators : Obligations.UnaryAccumulators := by
  intro op r s hdefrag
  exact completes_of_run_eq (opOf_accInstr op r) (unaryAcc_eq op r s) (by simpa using hdefrag)

/-- A byte read after addressing changes no memory map, so a write after it issues DEFRAG where it would have before. -/
theorem busRead_ea_issuesDefrag (e : MemForm) (s : State) (a b : Addr) (v : Byte) :
    (busRead (MemForm.ea e s).2 a).2.issuesDefrag b v = s.issuesDefrag b v :=
  issuesDefrag_congr ((busRead_cfg _ a).trans (MemForm.ea_cfg e s)) b v

/-- Flags and free values do not bear on which write issues DEFRAG. -/
theorem State.issuesDefrag_withFlags (s : State) (cc : CC) (n : Nat) (a : Addr) (v : Byte) :
    { s with cc := cc, draws := n }.issuesDefrag a v = s.issuesDefrag a v :=
  issuesDefrag_congr rfl a v

theorem unaryMem_eq (op : UnaryOp) (e : MemForm) (s : State) :
    let p := MemForm.ea e s
    let v := busRead p.2 p.1
    let w := op.rule v.2.cc (Config.freeFlag v.2.draws) v.1
    unaryMem op.unary e s =
      busWrite { v.2 with cc := w.2, draws := if op.leavesH then v.2.draws + 1 else v.2.draws } p.1 w.1 := by
  intro p v w
  rw [unaryMem, unaryFlags_eq]
  simp only [w, UnaryOp.rule_eq]
  rfl

/-- Settles O26: one read and one write of EA, the byte written by the rule. -/
theorem unaryMemory : Obligations.UnaryMemory := by
  intro op e s hdefrag p v w hclear
  refine completes_of_run_eq (opOf_memInstr op e) (unaryMem_eq op e s) ?_
  rw [busWrite_defragIssued, State.issuesDefrag_withFlags, busRead_ea_issuesDefrag, hclear, Bool.or_false,
    busRead_defragIssued, MemForm.ea_defragIssued, hdefrag]

/-! ### DAA (42_arithmetic.md R297) -/

/-- DAA by its correction as a number, V the next free value. -/
theorem decimalAdjust_eq (s : State) :
    decimalAdjust s =
      let cf := (daaCorrection s.a s.cc.h s.cc.c).toNat
      let r := BitVec.ofNat 8 ((s.a.toNat + cf) % 256)
      { s with
        a := r
        draws := s.draws + 1
        cc := { s.cc with
          n := r.getLsbD 7
          z := decide (r = 0)
          v := Config.freeFlag s.draws
          c := s.cc.c || decide (s.a.toNat + cf > 255) } } := by
  simp only [decimalAdjust, CC.daa_eq, daa8_eq_ofNat]
  rfl

/-! ### TST and CLR (42_arithmetic.md R290 to R295) -/

theorem opOf_byAcc_test (r : Acc) : opOf (byAcc .tsta .tstb r) = .testAcc r := by
  cases r <;> rfl

theorem opOf_byAcc_clear (r : Acc) : opOf (byAcc .clra .clrb r) = .clearAcc r := by
  cases r <;> rfl

theorem testAcc_eq (r : Acc) (s : State) : testAcc r s = { s with cc := moved8 s.cc (s.acc r) } := by
  rw [testAcc, CC.move8_eq_moved8]

theorem testMem_eq (e : MemForm) (s : State) :
    testMem e s = { (busRead (MemForm.ea e s).2 (MemForm.ea e s).1).2 with
      cc := moved8 (busRead (MemForm.ea e s).2 (MemForm.ea e s).1).2.cc
        (busRead (MemForm.ea e s).2 (MemForm.ea e s).1).1 } := by
  rw [testMem, CC.move8_eq_moved8]

/-- CLR clears the flags of before, which addressing and writing leave. -/
theorem clearMem_eq (e : MemForm) (s : State) :
    clearMem e s = { busWrite (MemForm.ea e s).2 (MemForm.ea e s).1 0x00 with
      cc := { s.cc with n := false, z := true, v := false, c := false } } := by
  simp only [clearMem, CC.clear, busWrite_cc, MemForm.ea_cc]

/-- Settles O27: TST is `testMem` or `testAcc`, CLR is `clearMem` or `clearAcc`. -/
theorem testAndClear : Obligations.TestAndClear := by
  refine ⟨fun e s hdefrag => ?_, fun r s hdefrag => ⟨?_, ?_⟩, fun e s hdefrag hclear => ?_⟩
  · exact completes_of_run_eq (o := .testMem e) rfl (testMem_eq e s) (by simpa using hdefrag)
  · exact completes_of_run_eq (opOf_byAcc_test r) (testAcc_eq r s) hdefrag
  · exact completes_of_run_eq (opOf_byAcc_clear r) rfl (by simpa using hdefrag)
  · refine completes_of_run_eq (o := .clearMem e) rfl (clearMem_eq e s) ?_
    rw [busWrite_defragIssued, MemForm.ea_defragIssued, MemForm.issuesDefrag_ea, hdefrag, hclear]
    rfl

/-! ### MUL, SEX, ABX, ANDCC, ORCC (42_arithmetic.md R296, R298, R299, 43_logic_shift.md R347, R348) -/

theorem mulAB_eq (s : State) :
    mulAB s = { s.setD (BitVec.ofNat 16 (s.a.toNat * s.b.toNat)) with
      cc := { s.cc with
        z := decide (BitVec.ofNat 16 (s.a.toNat * s.b.toNat) = 0)
        c := (BitVec.ofNat 16 (s.a.toNat * s.b.toNat)).getLsbD 7 } } := by
  rw [mulAB, mul8, CC.mul_eq]

/-- B is the low byte of its own sign extension, so SEX writes the whole of D. -/
theorem signExtend_eq (s : State) :
    signExtend s = { s.setD (BitVec.ofInt 16 s.b.toInt) with
      cc := { s.cc with
        n := (BitVec.ofInt 16 s.b.toInt).getLsbD 15
        z := decide (BitVec.ofInt 16 s.b.toInt = 0)
        v := if s.cfg.sexClearsV then false else s.cc.v } } := by
  simp only [signExtend, CC.sex_eq, ← joinBytes_sexByte, State.setD, hiByte_joinBytes, loByte_joinBytes]

theorem addBX_eq (s : State) : addBX s = { s with x := BitVec.ofNat 16 ((s.x.toNat + s.b.toNat) % 65536) } := by
  rw [addBX, add_zext8_eq_ofNat]

/-- Settles O28: each instruction is its operation, with the formulas of its rule. -/
theorem inherentOperations : Obligations.InherentOperations := by
  intro s hdefrag
  exact ⟨completes_of_run_eq (o := .mulAB) rfl (mulAB_eq s) hdefrag,
    completes_of_run_eq (o := .signExtend) rfl (signExtend_eq s) hdefrag,
    completes_of_run_eq (o := .addBX) rfl (addBX_eq s) hdefrag,
    fun v => ⟨completes_of_run_eq (o := .andCC v) rfl rfl hdefrag, completes_of_run_eq (o := .orCC v) rfl rfl hdefrag⟩⟩

end Sys2Proof.Machine

namespace Sys2Proof

/-- Settles O29: the correction is the sum of its halves, and after a packed addition each half stands for a decimal carry. -/
theorem decimalAdjust : Obligations.DecimalAdjust := by
  constructor
  · intro s hdefrag low high cf r
    have hrun := Machine.decimalAdjust_eq s
    rw [Machine.daaCorrection_toNat] at hrun
    exact Machine.completes_of_run_eq (o := .decimalAdjust) rfl hrun hdefrag
  · intro cc x1 x0 y1 y0 c v hx1 hx0 hy1 hy0 x y f sum
    have hsum : sum = 10 * (x1 + y1) + (x0 + y0 + c.toNat) := by omega
    rw [hsum]
    exact ⟨Machine.daa8_packed hx1 hx0 hy1 hy0 cc c,
      Bool.eq_iff_iff.mpr ((Machine.CC.daa_packed_c hx1 hx0 hy1 hy0 cc c v).trans decide_eq_true_iff.symm)⟩

end Sys2Proof

/-! PROOFS. The branches (44_branch_jump.md R370 to R402): the table of the conditions as the rule writes it, where PC goes, and
the conditions after a compare as orders. -/

namespace Sys2Proof.Machine

/-! ### The conditions (44_branch_jump.md R370) -/

/-- The table of R370, as the rule writes it. -/
def Cond.table (k : Cond) (f : CC) : Bool :=
  match k with
  | .always => true
  | .never => false
  | .hi => decide (f.c = false ∧ f.z = false)
  | .ls => decide (f.c = true ∨ f.z = true)
  | .cc => decide (f.c = false)
  | .cs => decide (f.c = true)
  | .ne => decide (f.z = false)
  | .eq => decide (f.z = true)
  | .vc => decide (f.v = false)
  | .vs => decide (f.v = true)
  | .pl => decide (f.n = false)
  | .mi => decide (f.n = true)
  | .ge => decide (f.n = f.v)
  | .lt => decide (f.n ≠ f.v)
  | .gt => decide (f.z = false ∧ f.n = f.v)
  | .le => decide (f.z = true ∨ f.n ≠ f.v)

/-- The model tests the conditions of the table. -/
theorem Cond.holds_eq_table (k : Cond) (f : CC) : k.holds f = k.table f := by
  cases k <;>
    simp only [Cond.holds, Cond.table, Bool.decide_and, Bool.decide_or, Bool.decide_eq_true, Bool.decide_eq_false,
      beq_eq_decide, bne_eq_decide_ne]

/-! ### Orders (42_arithmetic.md R261, R263) -/

/-- The branch conditions are the orders of two numbers, `a` and `m` unsigned, `x` and `y` signed. -/
def CC.Orders (f : CC) (a m : Nat) (x y : Int) : Prop :=
  (Cond.hi.holds f = true ↔ m < a) ∧ (Cond.ls.holds f = true ↔ a ≤ m) ∧
  (Cond.cc.holds f = true ↔ m ≤ a) ∧ (Cond.cs.holds f = true ↔ a < m) ∧
  (Cond.ne.holds f = true ↔ a ≠ m) ∧ (Cond.eq.holds f = true ↔ a = m) ∧
  (Cond.ge.holds f = true ↔ y ≤ x) ∧ (Cond.lt.holds f = true ↔ x < y) ∧
  (Cond.gt.holds f = true ↔ y < x) ∧ (Cond.le.holds f = true ↔ x ≤ y)

/-- The conditions are the orders where C is the unsigned order, Z equality, and N against V the signed order. -/
theorem CC.orders_of_flags {f : CC} {a m : Nat} {x y : Int} (hc : f.c = decide (a < m)) (hz : f.z = decide (a = m))
    (hnv : f.n ≠ f.v ↔ x < y) (hsigned : x = y ↔ a = m) : f.Orders a m x y := by
  have hge : f.n = f.v ↔ y ≤ x := not_iff_not.mp (hnv.trans not_le.symm)
  simp only [CC.Orders, Cond.holds_eq_table, Cond.table, decide_eq_true_iff, hc, hz, hnv, hge, decide_eq_false_iff_not,
    true_and]
  refine ⟨?_, ?_, ?_, ?_, ?_⟩ <;> omega

theorem sub8_false (a m : Byte) : sub8 a m false = a - m := by simp [sub8]

/-- A difference is 0 exactly where its operands are one number. -/
theorem sub_beq_zero {w : Nat} (a m : BitVec w) : (a - m == 0) = decide (a.toNat = m.toNat) := by
  rw [beq_eq_decide, decide_eq_decide, BitVec.toNat_inj]
  exact sub_eq_zero (a := a)

/-- N is the sign of the difference unless it overflows: N and V differ exactly where the exact difference is negative. -/
theorem CC.sub8_n_ne_v (cc : CC) (h : Bool) (a m : Byte) :
    (cc.sub8 h a m false).n ≠ (cc.sub8 h a m false).v ↔ a.toInt < m.toInt := by
  have ha := a.isLt
  have hm := m.isLt
  have hn : (cc.sub8 h a m false).n = true ↔ 128 ≤ (512 + a.toNat - m.toNat) % 256 := by
    simp only [CC.sub8, msb_eq_decide_toNat, sub8_toNat, Bool.toNat_false, Nat.sub_zero, decide_eq_true_iff]
    rfl
  have hv := CC.sub8_v cc h a m false
  rw [ne_eq, Bool.eq_iff_iff, hn, hv, Bool.toNat_false]
  simp only [toInt_byte]
  omega

theorem CC.sub16_n_ne_v (cc : CC) (a m : Word) : (cc.sub16 a m).n ≠ (cc.sub16 a m).v ↔ a.toInt < m.toInt := by
  have ha := a.isLt
  have hm := m.isLt
  have hn : (cc.sub16 a m).n = true ↔ 32768 ≤ (65536 - m.toNat + a.toNat) % 65536 := by
    simp only [CC.sub16, msb_eq_decide_toNat, BitVec.toNat_sub, decide_eq_true_iff]
    rfl
  rw [ne_eq, Bool.eq_iff_iff, hn, CC.sub16_v]
  simp only [toInt_word]
  omega

theorem toInt_eq_iff_toNat {w : Nat} (a m : BitVec w) : a.toInt = m.toInt ↔ a.toNat = m.toNat :=
  BitVec.toInt_inj.trans BitVec.toNat_inj.symm

/-- Settles O37: C is the borrow, Z equality, and N against V the sign of the exact difference, width by width. -/
theorem compareBranches : Obligations.CompareBranches := by
  refine ⟨fun cc h a m => CC.orders_of_flags ?_ ?_ (CC.sub8_n_ne_v cc h a m) (toInt_eq_iff_toNat a m),
    fun cc a m => CC.orders_of_flags rfl (sub_beq_zero a m) (CC.sub16_n_ne_v cc a m) (toInt_eq_iff_toNat a m)⟩
  · simp only [CC.sub8, Bool.toNat_false, Nat.add_zero]
  · simp only [CC.sub8, sub8_false, sub_beq_zero]

/-! ### Where a branch leaves PC (44_branch_jump.md R371, R389, 40_addressing_modes.md R176, R177) -/

/-- An instruction completes in the state its operation gives, whatever cycles that adds (70_reset_and_hazards.md R597). -/
theorem completes_of_run_busy {i : Instr} {o : Op} {s t : State} {n : Nat} (hop : opOf i = o)
    (hrun : o.run s = { t with busy := n }) (hdefrag : t.defragIssued = false) : Completes (exec i s) t := by
  subst hop
  exact ⟨n, exec_next_iff.mpr ⟨(congrArg State.defragIssued hrun).trans hdefrag, hrun.symm⟩⟩

theorem branch8_eq (k : Cond) (off : Byte) (s : State) :
    branch8 k off s = { s with pc := if k.table s.cc then displace s.pc off.toInt else s.pc } := by
  rw [branch8, Cond.holds_eq_table, relTarget8, add_sext8]
  split <;> rfl

theorem branch16_eq (k : Cond) (off : Word) (s : State) :
    branch16 k off s = { s with
      pc := if k.table s.cc then displace s.pc off.toInt else s.pc
      busy := if k.table s.cc then s.busy + 1 else s.busy } := by
  rw [branch16, Cond.holds_eq_table, relTarget16, add_eq_displace]
  split <;> rfl

/-- Settles O35: each short branch is `branch8` of its condition. -/
theorem shortBranches : Obligations.ShortBranches := by
  intro off s hdefrag branches
  have hbranch {i : Instr} (k : Cond) (hop : opOf i = .branch8 k off) : branches i (k.table s.cc) :=
    completes_of_run_eq hop (branch8_eq k off s) hdefrag
  exact ⟨hbranch .always rfl, hbranch .never rfl, hbranch .hi rfl, hbranch .ls rfl, hbranch .cc rfl, hbranch .cs rfl,
    hbranch .ne rfl, hbranch .eq rfl, hbranch .vc rfl, hbranch .vs rfl, hbranch .pl rfl, hbranch .mi rfl,
    hbranch .ge rfl, hbranch .lt rfl, hbranch .gt rfl, hbranch .le rfl⟩

theorem jump_relTarget16_eq (off : Word) (s : State) :
    s.jump (relTarget16 s off) = { s with pc := displace s.pc off.toInt } := by
  rw [State.jump, relTarget16, add_eq_displace]

/-- Settles O36: LBRA is a jump, LBRN nothing, and each other long branch `branch16` of its condition, one cycle longer where
taken. -/
theorem longBranches : Obligations.LongBranches := by
  intro off s hdefrag branches
  have hbranch {i : Instr} (k : Cond) (hop : opOf i = .branch16 k off) : branches i (k.table s.cc) :=
    completes_of_run_busy hop (branch16_eq k off s) hdefrag
  exact ⟨completes_of_run_eq (o := .jump16 off) rfl (jump_relTarget16_eq off s) hdefrag,
    completes_of_run_eq (o := .skip) rfl rfl hdefrag,
    hbranch .hi rfl, hbranch .ls rfl, hbranch .cc rfl, hbranch .cs rfl, hbranch .ne rfl, hbranch .eq rfl,
    hbranch .vc rfl, hbranch .vs rfl, hbranch .pl rfl, hbranch .mi rfl, hbranch .ge rfl, hbranch .lt rfl,
    hbranch .gt rfl, hbranch .le rfl⟩

end Sys2Proof.Machine

/-! PROOFS. Pulls of defined bytes and pushes as writes (45_stack_system.md R420), and with them the jumps, the calls and the
return (44_branch_jump.md R403 to R408). -/

namespace Sys2Proof.Machine

/-! ### Memory through a change of a stack pointer -/

theorem State.peek_setStackPtr (s : State) (k : Stack) (w : Word) (a : Addr) : (s.setStackPtr k w).peek a = s.peek a := by
  cases k <;> rfl

theorem State.bytesAt_cons {s : State} {a : Addr} {v : Byte} {vs : List Byte} :
    s.bytesAt a (v :: vs) = true ↔ s.peek a = some v ∧ s.bytesAt (a + 1) vs = true := by
  rw [State.bytesAt, Bool.and_eq_true, beq_iff_eq]

theorem State.setStackPtr_setStackPtr (s : State) (k : Stack) (w w' : Word) :
    (s.setStackPtr k w).setStackPtr k w' = s.setStackPtr k w' := by
  cases k <;> rfl

theorem mmuRegWrite_setStackPtr (s : State) (k : Stack) (w : Word) (o : Nat) (v : Byte) :
    mmuRegWrite (s.setStackPtr k w) o v = (mmuRegWrite s o v).setStackPtr k w := by
  simp only [mmuRegWrite, State.setStackPtr_cfg]
  split
  · rfl
  · split <;> cases k <;> rfl

theorem bankWrite_setStackPtr (s : State) (k : Stack) (w : Word) (j : Window) (o : Nat) (v : Byte) :
    bankWrite (s.setStackPtr k w) j o v = (bankWrite s j o v).setStackPtr k w := by
  simp only [bankWrite, State.setStackPtr_mmu]
  split
  · cases k <;> cases j <;> rfl
  · split <;> cases k <;> rfl
  · cases k <;> rfl

/-- A write to the bus does not see the stack pointers, wherever it goes. -/
theorem busWrite_setStackPtr (s : State) (k : Stack) (w : Word) (a : Addr) (v : Byte) :
    busWrite (s.setStackPtr k w) a v = (busWrite s a v).setStackPtr k w := by
  simp only [busWrite, locate_congr (s.setStackPtr_cfg k w)]
  split
  · rfl
  · cases k <;> rfl
  · rfl
  · exact mmuRegWrite_setStackPtr s k w _ v
  · exact bankWrite_setStackPtr s k w _ _ v
  · rfl

/-! ### Pulls of defined bytes (R420) -/

theorem pull8_of_peek {k : Stack} {s : State} {v : Byte} (h : s.peek (s.stackPtr k) = some v) :
    pull8 k s = (v, s.setStackPtr k (s.stackPtr k + 1)) := by
  rw [pull8, busRead_of_peek h]

theorem pull16_of_bytesAt {k : Stack} {s : State} {hi lo : Byte} (h : s.bytesAt (s.stackPtr k) [hi, lo] = true) :
    pull16 k s = (joinBytes hi lo, s.setStackPtr k (s.stackPtr k + 2)) := by
  obtain ⟨hhi, hrest⟩ := State.bytesAt_cons.mp h
  obtain ⟨hlo, -⟩ := State.bytesAt_cons.mp hrest
  have hpull : pull8 k (s.setStackPtr k (s.stackPtr k + 1)) = (lo, s.setStackPtr k (s.stackPtr k + 1 + 1)) := by
    rw [pull8_of_peek, State.stackPtr_setStackPtr, State.setStackPtr_setStackPtr]
    rw [State.stackPtr_setStackPtr, State.peek_setStackPtr, hlo]
  rw [pull16, pull8_of_peek hhi, hpull, add_assoc]
  rfl

/-! ### Pushes as writes (R420) -/

theorem push8_eq (k : Stack) (v : Byte) (s : State) :
    push8 k v s = (busWrite s (s.stackPtr k - 1) v).setStackPtr k (s.stackPtr k - 1) := by
  rw [push8, busWrite_setStackPtr]

/-- A pushed word lies below the old pointer, its low byte the higher. -/
theorem push16_eq (k : Stack) (w : Word) (s : State) :
    push16 k w s = (busWrite (busWrite s (s.stackPtr k - 1) (loByte w)) (s.stackPtr k - 2) (hiByte w)).setStackPtr k
      (s.stackPtr k - 2) := by
  have hptr : s.stackPtr k - 1 - 1 = s.stackPtr k - 2 := by ring
  rw [push16, push8_eq k (hiByte w), push8_stackPtr, hptr, push8_eq, busWrite_setStackPtr, State.setStackPtr_setStackPtr]

theorem push8_defragIssued (k : Stack) (v : Byte) (s : State) :
    (push8 k v s).defragIssued = (s.defragIssued || s.issuesDefrag (s.stackPtr k - 1) v) := by
  rw [push8_eq, State.setStackPtr_defragIssued, busWrite_defragIssued]

/-- A pushed word issues DEFRAG exactly where one of its bytes does (49_mmu_commands.md R488). -/
theorem push16_defragIssued (k : Stack) (w : Word) (s : State) :
    (push16 k w s).defragIssued = (s.defragIssued || !s.pushesClear (s.stackPtr k) [loByte w, hiByte w]) := by
  rw [push16, push8_defragIssued, push8_defragIssued, push8_stackPtr, issuesDefrag_congr (push8_cfg k _ s)]
  simp only [State.pushesClear, Bool.and_true, Bool.not_and, Bool.not_not, Bool.or_assoc]

theorem pushesClear_congr {s t : State} (h : t.cfg = s.cfg) (p : Word) (bs : List Byte) :
    t.pushesClear p bs = s.pushesClear p bs := by
  induction bs generalizing p with
  | nil => rfl
  | cons v vs ih => rw [State.pushesClear, State.pushesClear, issuesDefrag_congr h, ih]

/-! ### The jumps, the return and the calls -/

/-- RTS where the bytes pulled are defined (R407). -/
theorem pullItem_pc_of_bytesAt {s : State} {hi lo : Byte} (h : s.bytesAt s.sp [hi, lo] = true) :
    pullItem .s .pc s = { s with pc := joinBytes hi lo, sp := s.sp + 2 } := by
  have hpull : pull16 .s s = (joinBytes hi lo, s.setStackPtr .s (s.sp + 2)) := pull16_of_bytesAt (k := .s) h
  simp only [pullItem, hpull]
  rfl

/-- Settles O38: each instruction is its operation, and a pull of a word moves S by 2 from anywhere. -/
theorem jumpReturnNop : Obligations.JumpReturnNop := by
  refine ⟨fun e s hdefrag => ?_, fun s hdefrag => ?_, fun s hdefrag => ?_, fun s hi lo hdefrag hbytes => ?_⟩
  · exact completes_of_run_eq (o := .jumpEa e) rfl rfl ((MemForm.ea_defragIssued e s).trans hdefrag)
  · exact completes_of_run_eq (o := .skip) rfl rfl hdefrag
  · exact ⟨_, exec_next_iff.mpr ⟨(pull16_defragIssued .s s).trans hdefrag, rfl⟩, pull16_stackPtr .s s⟩
  · exact completes_of_run_eq (o := .pullPc) rfl (pullItem_pc_of_bytesAt hbytes) hdefrag

theorem call_eq (a : Addr) (s : State) :
    call a s = { busWrite (busWrite s (s.sp - 1) (loByte s.pc)) (s.sp - 2) (hiByte s.pc) with
      pc := a
      sp := s.sp - 2 } := by
  rw [call, push16_eq]
  rfl

theorem call_defragIssued (a : Addr) (s : State) :
    (call a s).defragIssued = (s.defragIssued || !s.pushesClear s.sp [loByte s.pc, hiByte s.pc]) :=
  push16_defragIssued .s s.pc s

/-- An instruction that is a call completes with its return address pushed. -/
theorem completes_of_call {i : Instr} {s p : State} {a : Addr} (hrun : (opOf i).run s = call a p)
    (hdefrag : p.defragIssued = false) (hclear : p.pushesClear p.sp [loByte p.pc, hiByte p.pc] = true) :
    Completes (exec i s)
      { busWrite (busWrite p (p.sp - 1) (loByte p.pc)) (p.sp - 2) (hiByte p.pc) with pc := a, sp := p.sp - 2 } := by
  refine completes_of_run rfl (hrun.trans (call_eq a p)) ?_
  rw [hrun, call_defragIssued, hdefrag, hclear]
  rfl

/-- Settles O39: BSR and LBSR call PC displaced, JSR its effective address, which leaves PC and the memory map as they
were. -/
theorem calls : Obligations.Calls := by
  refine ⟨fun off s hdefrag hclear => ?_, fun off s hdefrag hclear => ?_, fun e s hdefrag hclear => ?_⟩
  · exact completes_of_call (congrArg (call · s) (add_sext8 s.pc off)) hdefrag hclear
  · exact completes_of_call (congrArg (call · s) (add_eq_displace s.pc off)) hdefrag hclear
  · have hpc : (MemForm.ea e s).2.pc = s.pc := MemForm.ea_pc e s
    rw [← pushesClear_congr (MemForm.ea_cfg e s), ← hpc] at hclear
    rw [← hpc]
    exact completes_of_call rfl ((MemForm.ea_defragIssued e s).trans hdefrag) hclear

end Sys2Proof.Machine

/-! PROOFS. Pushes as the bytes of a frame below the pointer, and PSHS and PSHU (45_stack_system.md R420, R421,
R423). -/

namespace Sys2Proof.Machine

/-! ### Memory through a change of registers -/

theorem ofNat_succ (n : Nat) : BitVec.ofNat 16 (n + 1) = BitVec.ofNat 16 n + 1 := BitVec.ofNat_add n 1

section
variable {s t : State}

theorem State.SameMemory.refl (s : State) : s.SameMemory s := ⟨rfl, rfl, rfl, rfl, rfl, rfl⟩

/-- Every byte, those of the MMU registers among them, depends on the configuration and the memory alone. -/
theorem State.SameMemory.peek_eq (h : s.SameMemory t) (a : Addr) : t.peek a = s.peek a := by
  have hbank (k : Window) : t.bankRam k = s.bankRam k := by
    cases k
    · exact h.bankRam1
    · exact h.bankRam2
  simp only [State.peek, State.locate, h.cfg, h.mmu, h.ram, h.rom, hbank]

theorem State.bytesAt_congr (h : ∀ a, t.peek a = s.peek a) (a : Addr) (vs : List Byte) :
    t.bytesAt a vs = s.bytesAt a vs := by
  induction vs generalizing a with
  | nil => rfl
  | cons v vs ih => rw [State.bytesAt, State.bytesAt, h, ih]

theorem ramBelow_congr (h : t.cfg = s.cfg) (p : Word) (n : Nat) : t.ramBelow p n = s.ramBelow p n := by
  induction n generalizing p with
  | zero => rfl
  | succ n ih => rw [State.ramBelow, State.ramBelow, inRam_congr h, ih]

/-- What a push leaves in memory does not depend on registers, before or after it. -/
theorem PushedBelow.of_sameMemory {s' t' : State} {p : Word} {bs : List Byte} (h : PushedBelow s t p bs)
    (hs : s'.SameMemory s) (ht : t.SameMemory t') : PushedBelow s' t' p bs :=
  ⟨fun j hj => (ht.peek_eq _).trans (h.1 j hj),
    fun a ha => ((ht.peek_eq a).trans (h.2 a ha)).trans (hs.peek_eq a)⟩

theorem State.bytesAt_append (s : State) (a : Addr) (xs ys : List Byte) :
    s.bytesAt a (xs ++ ys) = (s.bytesAt a xs && s.bytesAt (a + BitVec.ofNat 16 xs.length) ys) := by
  induction xs generalizing a with
  | nil => simp [State.bytesAt]
  | cons x xs ih =>
    have hnext : a + 1 + BitVec.ofNat 16 xs.length = a + BitVec.ofNat 16 (x :: xs).length := by
      rw [List.length_cons, ofNat_succ]
      ring
    rw [List.cons_append, State.bytesAt, State.bytesAt, ih, hnext, Bool.and_assoc]

theorem State.bytesAt_iff_forall_peek {s : State} {a : Addr} {vs : List Byte} :
    s.bytesAt a vs = true ↔ ∀ j, (hj : j < vs.length) → s.peek (a + BitVec.ofNat 16 j) = some vs[j] := by
  induction vs generalizing a with
  | nil => simp [State.bytesAt]
  | cons v vs ih =>
    have hnext (j : Nat) : a + 1 + BitVec.ofNat 16 j = a + BitVec.ofNat 16 (j + 1) := by
      rw [ofNat_succ]
      ring
    rw [State.bytesAt_cons, ih]
    constructor
    · rintro ⟨hv, hvs⟩ (_ | j) hj
      · simpa using hv
      · exact hnext j ▸ hvs j (Nat.lt_of_succ_lt_succ hj)
    · intro h
      exact ⟨by simpa using h 0 (Nat.succ_pos _), fun j hj => hnext j ▸ h (j + 1) (Nat.succ_lt_succ hj)⟩

end

/-! ### Pushes, byte by byte (R420) -/

/-- Push a list of bytes, the first one highest. -/
def pushBytes (k : Stack) (bs : List Byte) (s : State) : State := bs.foldl (fun s v => push8 k v s) s

theorem pushBytes_cons (k : Stack) (v : Byte) (vs : List Byte) (s : State) :
    pushBytes k (v :: vs) s = pushBytes k vs (push8 k v s) := rfl

theorem pushItem_eq_pushBytes (k : Stack) (i : StackItem) (s : State) :
    pushItem k i s = pushBytes k (s.itemBytes k i) s := by
  cases i
  case other => cases k <;> rfl
  all_goals rfl

/-- What a register puts on its stack does not change while others are pushed there. -/
theorem itemBytes_pushItem (k : Stack) (i j : StackItem) (s : State) :
    (pushItem k i s).itemBytes k j = s.itemBytes k j := by
  cases j
  case other => cases k <;> simp [State.itemBytes]
  all_goals simp [State.itemBytes]

/-- Pushing registers is pushing the bytes of their frame (R421). -/
theorem pushItems_eq_pushBytes (k : Stack) (is : List StackItem) (s : State) :
    pushItems k is s = pushBytes k (s.frame k is) s := by
  induction is generalizing s with
  | nil => rfl
  | cons i is ih =>
    have hframe : (pushItem k i s).frame k is = s.frame k is :=
      List.flatMap_congr fun j _ => itemBytes_pushItem k i j s
    calc pushItems k (i :: is) s
        = pushItems k is (pushItem k i s) := rfl
      _ = pushBytes k (s.frame k is) (pushBytes k (s.itemBytes k i) s) := by rw [ih, hframe, pushItem_eq_pushBytes]
      _ = pushBytes k (s.frame k (i :: is)) s := by
        rw [State.frame, State.frame, List.flatMap_cons, pushBytes, pushBytes, pushBytes, List.foldl_append]

theorem length_itemBytes (s : State) (k : Stack) (i : StackItem) : (s.itemBytes k i).length = i.bytes := by
  cases i
  case other => cases k <;> rfl
  all_goals rfl

theorem length_frame (s : State) (k : Stack) (is : List StackItem) : (s.frame k is).length = frameBytes is := by
  rw [State.frame, List.length_flatMap, frameBytes]
  simp only [length_itemBytes]

theorem pushBytes_defragIssued (k : Stack) (bs : List Byte) (s : State) :
    (pushBytes k bs s).defragIssued = (s.defragIssued || !s.pushesClear (s.stackPtr k) bs) := by
  induction bs generalizing s with
  | nil => simp [pushBytes, State.pushesClear]
  | cons v vs ih =>
    rw [pushBytes_cons, ih, push8_defragIssued, push8_stackPtr, pushesClear_congr (push8_cfg k v s), State.pushesClear,
      Bool.not_and, Bool.not_not, Bool.or_assoc]

theorem pushItems_defragIssued (k : Stack) (is : List StackItem) (s : State) :
    (pushItems k is s).defragIssued = (s.defragIssued || !s.pushesClear (s.stackPtr k) (s.frame k is)) := by
  rw [pushItems_eq_pushBytes, pushBytes_defragIssued]

/-- No push into RAM issues DEFRAG, which is a write of an MMU register (10_state.md R64). -/
theorem pushesClear_of_ramBelow {s : State} {p : Word} {bs : List Byte} (h : s.ramBelow p bs.length = true) :
    s.pushesClear p bs = true := by
  induction bs generalizing p with
  | nil => rfl
  | cons v vs ih =>
    obtain ⟨hram, hrest⟩ := Bool.and_eq_true_iff.mp h
    obtain ⟨o, hl⟩ := inRam_iff.mp hram
    have hclear : s.issuesDefrag (p - 1) v = false := by simp only [State.issuesDefrag, hl]
    rw [State.pushesClear, hclear, ih hrest]
    rfl

theorem peek_push8 {k : Stack} {s : State} (h : s.inRam (s.stackPtr k - 1) = true) (v : Byte) (a : Addr) :
    (push8 k v s).peek a = if a = s.stackPtr k - 1 then some v else s.peek a := by
  obtain ⟨o, hl⟩ := inRam_iff.mp h
  rw [push8_eq, State.peek_setStackPtr, peek_busWrite_ram hl]

/-- The top of a stack of at most 64 KB is none of the places below it. -/
theorem top_ne_below (p : Word) {n : Nat} (hn : n + 1 < 65536) : p - 1 ≠ p - 1 - 1 - BitVec.ofNat 16 n := by
  intro h
  have hzero : BitVec.ofNat 16 (n + 1) = 0 := by
    rw [ofNat_succ]
    linear_combination h
  have hmod : (n + 1) % 65536 = 0 := congrArg BitVec.toNat hzero
  omega

/-- Bytes pushed into RAM lie below the old pointer in push order, and every other address reads as before. -/
theorem pushBytes_pushedBelow {k : Stack} {bs : List Byte} {s : State} (hlen : bs.length ≤ 65536)
    (hram : s.ramBelow (s.stackPtr k) bs.length = true) :
    PushedBelow s (pushBytes k bs s) (s.stackPtr k) bs := by
  induction bs generalizing s with
  | nil => exact ⟨fun j hj => absurd hj (Nat.not_lt_zero j), fun a _ => rfl⟩
  | cons v vs ih =>
    obtain ⟨htop, hrest⟩ := Bool.and_eq_true_iff.mp hram
    rw [List.length_cons] at hlen
    rw [← push8_stackPtr k v s, ← ramBelow_congr (push8_cfg k v s)] at hrest
    obtain ⟨hbytes, hother⟩ := ih (by omega) hrest
    rw [push8_stackPtr] at hbytes hother
    have hplace (j : Nat) : s.stackPtr k - 1 - BitVec.ofNat 16 (j + 1) = s.stackPtr k - 1 - 1 - BitVec.ofNat 16 j := by
      rw [ofNat_succ]
      ring
    refine ⟨fun j hj => ?bytes, fun a ha => ?other⟩
    case bytes =>
      cases j with
      | zero =>
        have hkept := hother (s.stackPtr k - 1) fun j hj => top_ne_below _ (by omega)
        rw [peek_push8 htop, if_pos rfl] at hkept
        simpa [pushBytes_cons] using hkept
      | succ j =>
        rw [hplace]
        exact hbytes j (Nat.lt_of_succ_lt_succ hj)
    case other =>
      have hne : a ≠ s.stackPtr k - 1 := by simpa using ha 0 (Nat.succ_pos _)
      rw [pushBytes_cons, hother a fun j hj => hplace j ▸ ha (j + 1) (Nat.succ_lt_succ hj), peek_push8 htop, if_neg hne]

theorem pushItems_pushedBelow {k : Stack} {is : List StackItem} {s : State} (hlen : frameBytes is ≤ 65536)
    (hram : s.ramBelow (s.stackPtr k) (frameBytes is) = true) :
    PushedBelow s (pushItems k is s) (s.stackPtr k) (s.frame k is) := by
  rw [← length_frame s k is] at hlen hram
  rw [pushItems_eq_pushBytes]
  exact pushBytes_pushedBelow hlen hram

/-! ### PSHS and PSHU -/

theorem opOf_pushInstr (k : Stack) (mask : Byte) : opOf (pushInstr k mask) = .pushMask k mask := by
  cases k <;> rfl

theorem opOf_pullInstr (k : Stack) (mask : Byte) : opOf (pullInstr k mask) = .pullMask k mask := by
  cases k <;> rfl

/-- A postbyte names at most the twelve bytes of the entire frame (R420). -/
theorem frameBytes_selected_le (mask : Byte) (is : List StackItem) : frameBytes (selected mask is) ≤ frameBytes is :=
  ((List.filter_sublist (l := is)).map StackItem.bytes).sum_le_sum fun _ _ => Nat.zero_le _

theorem frameBytes_selected_pushOrder_le (mask : Byte) : frameBytes (selected mask pushOrder) ≤ 65536 :=
  (frameBytes_selected_le mask pushOrder).trans (by decide)

theorem pushMask_defragIssued (k : Stack) (mask : Byte) (s : State) : (pushMask k mask s).defragIssued
    = (s.defragIssued || !s.pushesClear (s.stackPtr k) (s.frame k (selected mask pushOrder))) :=
  pushItems_defragIssued k _ s

theorem pushMask_clear {k : Stack} {mask : Byte} {s : State} (hdefrag : s.defragIssued = false)
    (hclear : s.pushesClear (s.stackPtr k) (s.frame k (selected mask pushOrder)) = true) :
    (pushMask k mask s).defragIssued = false := by
  rw [pushMask_defragIssued, hdefrag, hclear]
  rfl

theorem pushMask_stackPtr (k : Stack) (mask : Byte) (s : State) :
    (pushMask k mask s).stackPtr k = s.stackPtr k - BitVec.ofNat 16 (frameBytes (selected mask pushOrder)) :=
  pushItems_stackPtr k _ s

theorem pushMask_pushedBelow {k : Stack} {mask : Byte} {s : State}
    (hram : s.ramBelow (s.stackPtr k) (frameBytes (selected mask pushOrder)) = true) :
    PushedBelow s (pushMask k mask s) (s.stackPtr k) (s.frame k (selected mask pushOrder)) :=
  (pushItems_pushedBelow (frameBytes_selected_pushOrder_le mask) hram).of_sameMemory (.refl s) (addBusy_sameMemory _ _)

theorem exec_pushInstr {k : Stack} {mask : Byte} {s : State} (h : (pushMask k mask s).defragIssued = false) :
    exec (pushInstr k mask) s = .next (pushMask k mask s) := by
  rw [exec_next_iff, opOf_pushInstr]
  exact ⟨h, rfl⟩

/-- Settles O40: the registers are pushed as the bytes of their frame, which RAM keeps. -/
theorem pushRegisters : Obligations.PushRegisters := by
  intro k mask s hdefrag p bs hclear
  have hissued := pushMask_clear hdefrag hclear
  refine ⟨_, exec_pushInstr hissued, ?_, fun hram => ?_⟩
  · rw [length_frame]
    exact pushMask_stackPtr k mask s
  · rw [length_frame] at hram
    exact pushMask_pushedBelow hram

end Sys2Proof.Machine

/-! PROOFS. Pulls of defined bytes as writes of registers, PULS and PULU, and the pull that follows a push
(45_stack_system.md R420 to R424). -/

namespace Sys2Proof.Machine

/-! ### Pulls of defined bytes, as writes of registers (R420, R422) -/

/-- What a pull makes of the bytes of one register, the high byte of a word first. -/
def wordOf : List Byte → Word
  | [] => 0
  | [v] => zext8 v
  | hi :: lo :: _ => joinBytes hi lo

/-- The registers of a list take their bytes, one after the other, from those pulled. -/
def State.withItems (s : State) (k : Stack) : List StackItem → List Byte → State
  | [], _ => s
  | i :: is, bs => (s.regWrite (i.reg k) (wordOf (bs.take i.bytes))).withItems k is (bs.drop i.bytes)

theorem pullItem_of_byte {i : StackItem} (h : i.bytes = 1) (k : Stack) (s : State) :
    pullItem k i s = (pull8 k s).2.regWrite (i.reg k) (zext8 (pull8 k s).1) := by
  cases i
  case dp | b | a | cc => simp only [pullItem, StackItem.reg, State.regWrite, loByte_zext8]
  all_goals cases h

theorem pullItem_of_word {i : StackItem} (h : i.bytes = 2) (k : Stack) (s : State) :
    pullItem k i s = (pull16 k s).2.regWrite (i.reg k) (pull16 k s).1 := by
  cases i
  case pc | y | x => rfl
  case other => cases k <;> rfl
  all_goals cases h

theorem bytes_eq_one_or_two (i : StackItem) : i.bytes = 1 ∨ i.bytes = 2 := by
  cases i <;> decide

/-- No register on a stack is, or shares storage with, the pointer of that stack. -/
theorem itemReg_ne_stackReg (k : Stack) (i : StackItem) : i.reg k ≠ k.reg := by
  cases k <;> cases i <;> decide

/-- The registers on a stack share no storage. -/
theorem itemReg_shares_eq_false (k : Stack) {i j : StackItem} (h : i ≠ j) : Reg.shares (i.reg k) (j.reg k) = false := by
  revert h
  cases k <;> cases i <;> cases j <;> decide

theorem regWrite_setStackPtr {k : Stack} {q : Reg} (h : q ≠ k.reg) (s : State) (p w : Word) :
    (s.setStackPtr k p).regWrite q w = (s.regWrite q w).setStackPtr k p := by
  cases k
  · cases q
    case s => exact absurd rfl h
    all_goals rfl
  · cases q
    case u => exact absurd rfl h
    all_goals rfl

theorem regWrite_stackPtr {k : Stack} {q : Reg} (h : q ≠ k.reg) (s : State) (w : Word) :
    (s.regWrite q w).stackPtr k = s.stackPtr k := by
  cases k
  · cases q
    case s => exact absurd rfl h
    all_goals rfl
  · cases q
    case u => exact absurd rfl h
    all_goals rfl

theorem regWrite_sameMemory (s : State) (q : Reg) (w : Word) : s.SameMemory (s.regWrite q w) := by
  constructor <;> simp

theorem withItems_setStackPtr (k : Stack) (is : List StackItem) (bs : List Byte) (s : State) (p : Word) :
    (s.setStackPtr k p).withItems k is bs = (s.withItems k is bs).setStackPtr k p := by
  induction is generalizing s bs with
  | nil => rfl
  | cons i is ih =>
    rw [State.withItems, State.withItems, regWrite_setStackPtr (itemReg_ne_stackReg k i), ih]

/-- A pull of defined bytes writes the register and moves the pointer; memory is as it was. -/
theorem pullItem_of_bytesAt {k : Stack} {i : StackItem} {s : State} {bs : List Byte} (hlen : bs.length = i.bytes)
    (h : s.bytesAt (s.stackPtr k) bs = true) :
    pullItem k i s = (s.regWrite (i.reg k) (wordOf bs)).setStackPtr k (s.stackPtr k + BitVec.ofNat 16 i.bytes) := by
  rcases bytes_eq_one_or_two i with hbytes | hbytes
  · obtain ⟨v, rfl⟩ := List.length_eq_one_iff.mp (hlen.trans hbytes)
    rw [pullItem_of_byte hbytes, pull8_of_peek (State.bytesAt_cons.mp h).1,
      regWrite_setStackPtr (itemReg_ne_stackReg k i), hbytes]
    rfl
  · obtain ⟨hi, lo, rfl⟩ := List.length_eq_two.mp (hlen.trans hbytes)
    rw [pullItem_of_word hbytes, pull16_of_bytesAt h, regWrite_setStackPtr (itemReg_ne_stackReg k i), hbytes]
    rfl

/-- A pull of defined bytes gives every register its bytes (R422). -/
theorem pullItems_of_bytesAt {k : Stack} {is : List StackItem} {s : State} {bs : List Byte}
    (hlen : bs.length = frameBytes is) (h : s.bytesAt (s.stackPtr k) bs = true) :
    pullItems k is s = (s.withItems k is bs).setStackPtr k (s.stackPtr k + BitVec.ofNat 16 (frameBytes is)) := by
  induction is generalizing s bs with
  | nil =>
    simp only [frameBytes, List.map_nil, List.sum_nil, BitVec.add_zero]
    cases k <;> rfl
  | cons i is ih =>
    have hframe : frameBytes (i :: is) = i.bytes + frameBytes is := by simp [frameBytes]
    have htake : (bs.take i.bytes).length = i.bytes := by rw [List.length_take]; omega
    rw [← List.take_append_drop i.bytes bs, State.bytesAt_append, htake, Bool.and_eq_true] at h
    obtain ⟨hhead, hrest⟩ := h
    have hpull := pullItem_of_bytesAt htake hhead
    have hpeek (a : Addr) : (pullItem k i s).peek a = s.peek a := by
      rw [hpull, State.peek_setStackPtr]
      exact (regWrite_sameMemory s _ _).peek_eq a
    have hptr : (pullItem k i s).stackPtr k = s.stackPtr k + BitVec.ofNat 16 i.bytes := by
      rw [hpull, State.stackPtr_setStackPtr]
    rw [← hptr, ← State.bytesAt_congr hpeek] at hrest
    calc pullItems k (i :: is) s
        = pullItems k is (pullItem k i s) := rfl
      _ = ((pullItem k i s).withItems k is (bs.drop i.bytes)).setStackPtr k
            (s.stackPtr k + BitVec.ofNat 16 i.bytes + BitVec.ofNat 16 (frameBytes is)) := by
        rw [ih (by rw [List.length_drop]; omega) hrest, hptr]
      _ = (s.withItems k (i :: is) bs).setStackPtr k (s.stackPtr k + BitVec.ofNat 16 (frameBytes (i :: is))) := by
        rw [hpull, withItems_setStackPtr, State.setStackPtr_setStackPtr, State.withItems, hframe, BitVec.ofNat_add,
          add_assoc]

/-! ### The registers after a pull -/

theorem itemBytes_congr {k : Stack} {i : StackItem} {s t : State} (h : s.SameReg (i.reg k) t) :
    t.itemBytes k i = s.itemBytes k i := by
  have hbyte {v w : Byte} (h : zext8 v = zext8 w) : v = w := by rw [← loByte_zext8 v, h, loByte_zext8]
  cases i
  case other =>
    cases k
    · exact congrArg (fun w => [loByte w, hiByte w]) h
    · exact congrArg (fun w => [loByte w, hiByte w]) h
  case pc | y | x => exact congrArg (fun w => [loByte w, hiByte w]) h
  case dp | b | a | cc => exact congrArg (fun v => [v]) (hbyte h)

/-- A register that has taken bytes puts the same bytes on its stack, in the other order. -/
theorem itemBytes_regWrite (k : Stack) (i : StackItem) (s : State) {bs : List Byte} (h : bs.length = i.bytes) :
    ((s.regWrite (i.reg k) (wordOf bs)).itemBytes k i).reverse = bs := by
  rcases bytes_eq_one_or_two i with hbytes | hbytes
  · obtain ⟨v, rfl⟩ := List.length_eq_one_iff.mp (h.trans hbytes)
    cases i
    case dp | b | a | cc => simp [State.itemBytes, StackItem.reg, State.regWrite, wordOf, loByte_zext8]
    all_goals cases hbytes
  · obtain ⟨hi, lo, rfl⟩ := List.length_eq_two.mp (h.trans hbytes)
    cases i
    case pc | y | x => simp [State.itemBytes, StackItem.reg, State.regWrite, wordOf]
    case other => cases k <;> simp [State.itemBytes, StackItem.reg, State.regWrite, wordOf]
    all_goals cases hbytes

theorem itemBytes_withItems_of_not_mem {k : Stack} {is : List StackItem} {i : StackItem} (h : i ∉ is) (bs : List Byte)
    (s : State) : (s.withItems k is bs).itemBytes k i = s.itemBytes k i := by
  induction is generalizing s bs with
  | nil => rfl
  | cons j is ih =>
    obtain ⟨hij, his⟩ := not_or.mp (mt List.mem_cons.mpr h)
    rw [State.withItems, ih his]
    exact itemBytes_congr (regWrite_sameReg (itemReg_shares_eq_false k hij) s _)

/-- Each register of the list takes the bytes that stand after those of the registers pulled before it. -/
theorem itemBytes_withItems_of_mem {k : Stack} {is : List StackItem} (hnodup : is.Nodup) {i : StackItem} (h : i ∈ is)
    {bs : List Byte} (hlen : bs.length = frameBytes is) (s : State) :
    ((s.withItems k is bs).itemBytes k i).reverse
      = (bs.drop (frameBytes (is.takeWhile fun j => j != i))).take i.bytes := by
  induction is generalizing s bs with
  | nil => cases h
  | cons j is ih =>
    have hframe (is : List StackItem) : frameBytes (j :: is) = j.bytes + frameBytes is := by simp [frameBytes]
    obtain ⟨hj, hnodup⟩ := List.nodup_cons.mp hnodup
    rw [hframe] at hlen
    rw [State.withItems]
    by_cases hij : j = i
    · subst hij
      rw [itemBytes_withItems_of_not_mem hj, itemBytes_regWrite k j s (by rw [List.length_take]; omega)]
      simp [frameBytes]
    · have hmem : i ∈ is := (List.mem_cons.mp h).resolve_left (Ne.symm hij)
      rw [ih hnodup hmem (by rw [List.length_drop]; omega), List.drop_drop,
        List.takeWhile_cons_of_pos (by simpa using hij), hframe]

/-! ### PULS and PULU -/

theorem pullItem_stackPtr (k : Stack) (i : StackItem) (s : State) :
    (pullItem k i s).stackPtr k = s.stackPtr k + BitVec.ofNat 16 i.bytes := by
  rcases bytes_eq_one_or_two i with hbytes | hbytes
  · rw [pullItem_of_byte hbytes, regWrite_stackPtr (itemReg_ne_stackReg k i), pull8_stackPtr, hbytes]
    rfl
  · rw [pullItem_of_word hbytes, regWrite_stackPtr (itemReg_ne_stackReg k i), pull16_stackPtr, hbytes]
    rfl

/-- The stack pointer goes up by the bytes pulled, wherever it points (R422). -/
theorem pullItems_stackPtr (k : Stack) (is : List StackItem) (s : State) :
    (pullItems k is s).stackPtr k = s.stackPtr k + BitVec.ofNat 16 (frameBytes is) := by
  unfold pullItems frameBytes
  induction is generalizing s with
  | nil => simp
  | cons i is ih =>
    rw [List.foldl_cons, ih, pullItem_stackPtr, List.map_cons, List.sum_cons, BitVec.ofNat_add, add_assoc]

theorem pullItem_defragIssued (k : Stack) (i : StackItem) (s : State) :
    (pullItem k i s).defragIssued = s.defragIssued := by
  rcases bytes_eq_one_or_two i with hbytes | hbytes
  · rw [pullItem_of_byte hbytes, State.regWrite_defragIssued, pull8_defragIssued]
  · rw [pullItem_of_word hbytes, State.regWrite_defragIssued, pull16_defragIssued]

theorem pullItems_defragIssued (k : Stack) (is : List StackItem) (s : State) :
    (pullItems k is s).defragIssued = s.defragIssued := by
  unfold pullItems
  induction is generalizing s with
  | nil => rfl
  | cons i is ih => rw [List.foldl_cons, ih, pullItem_defragIssued]

theorem exec_pullInstr (k : Stack) (mask : Byte) {s : State} (hdefrag : s.defragIssued = false) :
    exec (pullInstr k mask) s = .next (pullMask k mask s) := by
  rw [exec_next_iff, opOf_pullInstr]
  exact ⟨(pullItems_defragIssued k _ s).trans hdefrag, rfl⟩

theorem nodup_selected_pullOrder (mask : Byte) : (selected mask pullOrder).Nodup :=
  List.Nodup.filter _ (by decide)

theorem mem_selected_pullOrder (mask : Byte) (i : StackItem) :
    i ∈ selected mask pullOrder ↔ mask.getLsbD i.bit = true := by
  have hall : i ∈ pullOrder := by cases i <;> decide
  simp [selected, hall]

/-- The registers that a postbyte names before one it names. -/
theorem takeWhile_selected {mask : Byte} {i : StackItem} (h : mask.getLsbD i.bit = true) (is : List StackItem) :
    (selected mask is).takeWhile (fun j => j != i) = selected mask (is.takeWhile fun j => j != i) := by
  induction is with
  | nil => rfl
  | cons j is ih =>
    unfold selected at ih ⊢
    by_cases hij : j = i
    · subst hij
      simp [h]
    · cases hj : mask.getLsbD j.bit <;> simp [hj, hij, ih]

/-- Settles O41: a pull from anywhere moves the pointer, and one of defined bytes writes the registers of the mask. -/
theorem pullRegisters : Obligations.PullRegisters := by
  refine ⟨fun k mask s hdefrag => ?_, fun k mask s bs hdefrag hlen hbytes => ?_⟩
  · exact ⟨_, exec_pullInstr k mask hdefrag, pullItems_stackPtr k _ s⟩
  · refine ⟨_, exec_pullInstr k mask hdefrag, fun i => ?_⟩
    have hpull : (pullMask k mask s).itemBytes k i = (s.withItems k (selected mask pullOrder) bs).itemBytes k i := by
      refine itemBytes_congr (State.SameReg.trans ?_ (addBusy_sameReg _ _ _))
      rw [pullItems_of_bytesAt hlen hbytes]
      exact setStackPtr_sameReg (itemReg_ne_stackReg k i) _ _
    rw [hpull]
    split
    · next hi =>
      rw [itemBytes_withItems_of_mem (nodup_selected_pullOrder mask) ((mem_selected_pullOrder mask i).mpr hi) hlen,
        takeWhile_selected hi]
      rfl
    · next hi => exact itemBytes_withItems_of_not_mem (mt (mem_selected_pullOrder mask i).mp hi) bs s

/-! ### A push into RAM and the pull that follows it -/

theorem selected_pullOrder (mask : Byte) : selected mask pullOrder = (selected mask pushOrder).reverse := by
  have horder : pullOrder = pushOrder.reverse := rfl
  rw [selected, selected, horder, List.filter_reverse]

theorem frameBytes_reverse (is : List StackItem) : frameBytes is.reverse = frameBytes is := by
  rw [frameBytes, List.map_reverse, List.sum_reverse, frameBytes]

/-- What has been pushed lies from the new pointer on, in the order in which a pull takes it. -/
theorem PushedBelow.bytesAt {s t : State} {p : Word} {bs : List Byte} (h : PushedBelow s t p bs) :
    t.bytesAt (p - BitVec.ofNat 16 bs.length) bs.reverse = true := by
  rw [State.bytesAt_iff_forall_peek]
  intro j hj
  rw [List.length_reverse] at hj
  have hsplit : bs.length = bs.length - 1 - j + j + 1 := by omega
  have hplace : p - BitVec.ofNat 16 bs.length + BitVec.ofNat 16 j = p - 1 - BitVec.ofNat 16 (bs.length - 1 - j) := by
    rw [congrArg (BitVec.ofNat 16) hsplit, ofNat_succ, BitVec.ofNat_add]
    ring
  rw [hplace, h.1 _ (by omega), List.getElem_reverse]

theorem wordOf_itemBytes (k : Stack) (i : StackItem) (s : State) :
    wordOf (s.itemBytes k i).reverse = s.regRead (i.reg k) := by
  cases i
  case other => cases k <;> exact joinBytes_hi_lo _
  case pc | y | x => exact joinBytes_hi_lo _
  all_goals rfl

/-- Where a register takes the value it holds, every register is as it was. -/
theorem regWrite_regRead_sameReg (p q : Reg) (s : State) : s.SameReg q (s.regWrite p (s.regRead p)) := by
  cases p
  case s => cases q <;> rfl
  case x | y | u | pc => rfl
  case d | a | b | cc | dp => simp [State.SameReg, State.regWrite, State.regRead, State.setD, State.d, loByte_zext8]

/-- Registers that take the bytes they themselves put on the stack are as they were. -/
theorem withItems_own_sameReg (k : Stack) (is : List StackItem) (s : State) (q : Reg) :
    s.SameReg q (s.withItems k is (is.flatMap fun i => (s.itemBytes k i).reverse)) := by
  induction is generalizing s with
  | nil => exact .refl q s
  | cons i is ih =>
    have hown (q : Reg) : s.SameReg q (s.regWrite (i.reg k) (s.regRead (i.reg k))) := regWrite_regRead_sameReg _ q s
    have hitems : (is.flatMap fun j => (s.itemBytes k j).reverse)
        = is.flatMap fun j => ((s.regWrite (i.reg k) (s.regRead (i.reg k))).itemBytes k j).reverse := by
      simp only [itemBytes_congr (hown _)]
    have hlen : (s.itemBytes k i).reverse.length = i.bytes := by rw [List.length_reverse, length_itemBytes]
    rw [List.flatMap_cons, State.withItems, List.take_left' hlen, List.drop_left' hlen, wordOf_itemBytes, hitems]
    exact (hown q).trans (ih _)

theorem regRead_stackReg (k : Stack) (s : State) : s.regRead k.reg = s.stackPtr k := by
  cases k <;> rfl

theorem pushMask_sameReg {k : Stack} {q : Reg} (h : q ≠ k.reg) (mask : Byte) (s : State) :
    s.SameReg q (pushMask k mask s) :=
  (pushItems_sameReg h _ s).trans (addBusy_sameReg q _ _)

/-- The pull takes the frame that the push has left, in pull order. -/
theorem pushMask_bytesAt {k : Stack} {mask : Byte} {s : State}
    (hram : s.ramBelow (s.stackPtr k) (frameBytes (selected mask pushOrder)) = true) :
    (pushMask k mask s).bytesAt ((pushMask k mask s).stackPtr k)
      ((selected mask pullOrder).flatMap fun i => ((pushMask k mask s).itemBytes k i).reverse) = true := by
  have hframe : (s.frame k (selected mask pushOrder)).reverse
      = (selected mask pullOrder).flatMap fun i => ((pushMask k mask s).itemBytes k i).reverse := by
    rw [selected_pullOrder, State.frame, List.reverse_flatMap]
    exact List.flatMap_congr fun i _ =>
      (congrArg List.reverse (itemBytes_congr (pushMask_sameReg (itemReg_ne_stackReg k i) mask s))).symm
  have hbytes := (pushMask_pushedBelow hram).bytesAt
  rwa [length_frame, ← pushMask_stackPtr, hframe] at hbytes

/-- A pull of the bytes that the registers of the mask put on the stack changes no register but the pointer. -/
theorem pullMask_own_sameReg {k : Stack} {mask : Byte} {s : State} {q : Reg} (hq : q ≠ k.reg)
    (h : s.bytesAt (s.stackPtr k) ((selected mask pullOrder).flatMap fun i => (s.itemBytes k i).reverse) = true) :
    s.SameReg q (pullMask k mask s) := by
  refine State.SameReg.trans ?_ (addBusy_sameReg q _ _)
  rw [pullItems_of_bytesAt ?length h]
  · exact (withItems_own_sameReg k _ s q).trans (setStackPtr_sameReg hq _ _)
  case length => simp only [List.length_flatMap, List.length_reverse, length_itemBytes, frameBytes]

/-- Settles O42: RAM keeps the frame, the pull gives each register what it has pushed, and the pointer comes back. -/
theorem pushPullRestores : Obligations.PushPullRestores := by
  intro k mask s hdefrag hram
  have hclear : s.pushesClear (s.stackPtr k) (s.frame k (selected mask pushOrder)) = true :=
    pushesClear_of_ramBelow (by rwa [length_frame])
  have hissued := pushMask_clear hdefrag hclear
  refine ⟨_, _, exec_pushInstr hissued, exec_pullInstr k mask hissued, fun q => ?_⟩
  by_cases hq : q = k.reg
  · subst hq
    have hpull : (pullMask k mask (pushMask k mask s)).stackPtr k = (pushMask k mask s).stackPtr k
        + BitVec.ofNat 16 (frameBytes (selected mask pullOrder)) := pullItems_stackPtr k _ _
    rw [regRead_stackReg, regRead_stackReg, hpull, pushMask_stackPtr, selected_pullOrder, frameBytes_reverse,
      sub_add_cancel]
  · exact (pushMask_sameReg hq mask s).trans (pullMask_own_sameReg hq (pushMask_bytesAt hram))

end Sys2Proof.Machine

/-! PROOFS. The software interrupts, RTI, SYNC and CWAI (45_stack_system.md R425 to R430). -/

namespace Sys2Proof.Machine

/-! ### SWI, SWI2, SWI3 (R425 to R427) -/

theorem busRead_withCC (s : State) (f : CC) (a : Addr) :
    busRead { s with cc := f } a = ((busRead s a).1, { (busRead s a).2 with cc := f }) := by
  have hlocate : State.locate { s with cc := f } a = s.locate a := rfl
  simp only [busRead, hlocate, mmuRegRead, bankRead]
  split
  case h_4 =>
    split
    · rfl
    · split <;> rfl
  case h_5 => split <;> rfl
  all_goals rfl

/-- A vector is read as it stands, whatever CC holds (20_memory.md R93). -/
theorem jumpVector_withCC (v : Vector) (s : State) (f : CC) :
    jumpVector v { s with cc := f } = { jumpVector v s with cc := f } := by
  simp only [jumpVector, read16, busRead_withCC]

theorem jumpVector_of_bytesAt {v : Vector} {s : State} {hi lo : Byte} (h : s.bytesAt v.addr [hi, lo] = true) :
    jumpVector v s = s.jump (joinBytes hi lo) := by
  obtain ⟨hhi, hrest⟩ := State.bytesAt_cons.mp h
  simp only [jumpVector, read16_of_peek hhi (State.bytesAt_cons.mp hrest).1, State.jump]

theorem pushEntire_sp (s : State) : (pushEntire s).sp = s.sp - 12 :=
  pushItems_stackPtr .s pushOrder (s.setE true)

theorem pushEntire_defragIssued (s : State) :
    (pushEntire s).defragIssued = (s.defragIssued || !s.pushesClear s.sp ((s.setE true).frame .s pushOrder)) := by
  rw [← pushesClear_congr (s.setE_cfg true)]
  exact pushItems_defragIssued .s pushOrder (s.setE true)

theorem pushEntire_clear {s : State} (hdefrag : s.defragIssued = false)
    (hclear : s.pushesClear s.sp ((s.setE true).frame .s pushOrder) = true) : (pushEntire s).defragIssued = false := by
  rw [pushEntire_defragIssued, hdefrag, hclear]
  rfl

/-- The entire frame, with E set, lies below S (R420, 60_exceptions.md R536). -/
theorem pushEntire_pushedBelow {s : State} (hram : s.ramBelow s.sp 12 = true) :
    PushedBelow s (pushEntire s) s.sp ((s.setE true).frame .s pushOrder) := by
  rw [← ramBelow_congr (s.setE_cfg true)] at hram
  exact (pushItems_pushedBelow (k := .s) (is := pushOrder) (s := s.setE true) (by decide) hram).of_sameMemory
    (setE_sameMemory s true) (.refl _)

theorem opOf_softwareInterrupt {v : Vector} (h : v ∈ [Vector.swi, .swi2, .swi3]) :
    opOf (softwareInterrupt v) = .softInt v (decide (v = .swi)) := by
  simp only [List.mem_cons, List.not_mem_nil, or_false] at h
  rcases h with rfl | rfl | rfl <;> rfl

theorem State.withCC_of_eq {s : State} {f : CC} (h : s.cc = f) : { s with cc := f } = s := by
  subst h
  rfl

/-- A software interrupt is the entire frame, the vector, and CC with E set and, for SWI, F and I. -/
theorem softInt_run (v : Vector) (masks : Bool) (s : State) :
    (Op.softInt v masks).run s = { jumpVector v (pushEntire s) with
      cc := { s.cc with e := true, f := s.cc.f || masks, i := s.cc.i || masks } } := by
  have hmasks : (if masks then (pushEntire s).maskInterrupts else pushEntire s)
      = { pushEntire s with cc := { s.cc with e := true, f := s.cc.f || masks, i := s.cc.i || masks } } := by
    cases masks
    · rw [Bool.or_false, Bool.or_false, State.withCC_of_eq (pushEntire_cc s)]
      exact if_neg Bool.false_ne_true
    · rw [Bool.or_true, Bool.or_true, if_pos rfl, State.maskInterrupts, pushEntire_cc]
  rw [← jumpVector_withCC, Op.run, hmasks]

theorem exec_softwareInterrupt {v : Vector} (hv : v ∈ [Vector.swi, .swi2, .swi3]) {s : State}
    (hissued : (pushEntire s).defragIssued = false) :
    exec (softwareInterrupt v) s = .next { jumpVector v (pushEntire s) with
      cc := { s.cc with e := true, f := s.cc.f || decide (v = .swi), i := s.cc.i || decide (v = .swi) } } := by
  rw [exec_next_iff, opOf_softwareInterrupt hv, softInt_run]
  simp only [jumpVector_defragIssued, hissued, and_self]

/-- Settles O43, from the frame that is pushed and the vector that is read after it. -/
theorem softwareInterrupts : Obligations.SoftwareInterrupts := by
  intro v s hv hdefrag bs hclear
  refine ⟨_, exec_softwareInterrupt hv (pushEntire_clear hdefrag hclear), ?_, ?_, ?_, fun hi lo hram hvector => ?_⟩
  · simp only [jumpVector_sp, pushEntire_sp]
  · simp only [jumpVector_pc]
  · rfl
  have hpushed := (pushEntire_pushedBelow hram).of_sameMemory (.refl s) (jump_sameMemory _ (joinBytes hi lo))
  rw [jumpVector_of_bytesAt hvector]
  exact ⟨rfl, hpushed.of_sameMemory (.refl s) (withCC_sameMemory _ _)⟩

/-! ### RTI (R428) -/

theorem returnFromInterrupt_defragIssued (s : State) : (returnFromInterrupt s).defragIssued = s.defragIssued := by
  unfold returnFromInterrupt
  dsimp only
  split
  · rw [pullItem_defragIssued, State.addBusy_defragIssued, pullItems_defragIssued, pullItem_defragIssued]
  · rw [pullItem_defragIssued, pullItem_defragIssued]

/-- The state in which RTI has pulled CC. -/
def State.pulledCC (s : State) (c : Byte) : State := { s with cc := CC.ofByte c, sp := s.sp + 1 }

theorem pullItem_cc_of_peek {s : State} {c : Byte} (h : s.peek s.sp = some c) : pullItem .s .cc s = s.pulledCC c := by
  have hpull : pull8 .s s = (c, s.setStackPtr .s (s.sp + 1)) := pull8_of_peek (k := .s) h
  simp only [pullItem, hpull]
  rfl

theorem bytesAt_pulledCC (s : State) (c : Byte) (a : Addr) (vs : List Byte) :
    (s.pulledCC c).bytesAt a vs = s.bytesAt a vs :=
  State.bytesAt_congr (s := s) (t := s.pulledCC c) (fun _ => rfl) a vs

/-- With E clear in the CC pulled, PC alone is pulled after it. -/
theorem returnFromInterrupt_of_fast {s : State} {c p1 p0 : Byte} (he : c.getLsbD 7 = false)
    (h : s.bytesAt s.sp [c, p1, p0] = true) :
    returnFromInterrupt s = { s with cc := CC.ofByte c, pc := joinBytes p1 p0, sp := s.sp + 3 } := by
  obtain ⟨hc, hrest⟩ := State.bytesAt_cons.mp h
  have hclear : (s.pulledCC c).cc.e = false := he
  have hpc : (s.pulledCC c).bytesAt (s.pulledCC c).sp [p1, p0] = true := (bytesAt_pulledCC s c _ _).trans hrest
  have hsp : s.sp + 3 = s.sp + 1 + 2 := by ring
  simp only [returnFromInterrupt, pullItem_cc_of_peek hc, hclear, Bool.false_eq_true, if_false]
  rw [pullItem_pc_of_bytesAt hpc, hsp]
  rfl

theorem pullItems_rtiItems {s : State} {a b dp x1 x0 y1 y0 u1 u0 : Byte}
    (h : s.bytesAt s.sp [a, b, dp, x1, x0, y1, y0, u1, u0] = true) :
    pullItems .s rtiItems s = { s with
      a := a
      b := b
      dp := dp
      x := joinBytes x1 x0
      y := joinBytes y1 y0
      u := joinBytes u1 u0
      sp := s.sp + 9 } := by
  rw [pullItems_of_bytesAt (k := .s) rfl h]
  simp only [rtiItems, State.withItems, StackItem.bytes, StackItem.reg, List.take, List.drop, wordOf, State.regWrite,
    loByte_zext8]
  rfl

/-- With E set in the CC pulled, A, B, DP, X, Y and U are pulled before PC. -/
theorem returnFromInterrupt_of_entire {s : State} {c a b dp x1 x0 y1 y0 u1 u0 p1 p0 : Byte} (he : c.getLsbD 7 = true)
    (h : s.bytesAt s.sp [c, a, b, dp, x1, x0, y1, y0, u1, u0, p1, p0] = true) :
    returnFromInterrupt s = { s with
      cc := CC.ofByte c
      a := a
      b := b
      dp := dp
      x := joinBytes x1 x0
      y := joinBytes y1 y0
      u := joinBytes u1 u0
      pc := joinBytes p1 p0
      sp := s.sp + 12
      busy := s.busy + 9 } := by
  obtain ⟨hc, hrest⟩ := State.bytesAt_cons.mp h
  have hset : (s.pulledCC c).cc.e = true := he
  rw [← bytesAt_pulledCC s c] at hrest
  have hsplit := (State.bytesAt_append (s.pulledCC c) (s.pulledCC c).sp
    [a, b, dp, x1, x0, y1, y0, u1, u0] [p1, p0]).symm.trans hrest
  obtain ⟨hitems, hpc⟩ := Bool.and_eq_true_iff.mp hsplit
  have hsp : s.sp + 12 = s.sp + 1 + 9 + 2 := by ring
  simp only [returnFromInterrupt, pullItem_cc_of_peek hc, hset, if_true]
  rw [pullItem_pc_of_bytesAt (hi := p1) (lo := p0), pullItems_rtiItems hitems, hsp]
  · rfl
  · rw [pullItems_rtiItems hitems]
    exact (State.bytesAt_congr (fun _ => rfl) _ _).trans hpc

theorem exec_rti {s : State} (hdefrag : s.defragIssued = false) : exec .rti s = .next (returnFromInterrupt s) := by
  rw [exec_next_iff]
  exact ⟨(returnFromInterrupt_defragIssued s).trans hdefrag, rfl⟩

/-! ### SYNC and CWAI (R429, R430) -/

theorem exec_cwai {v : Byte} {s : State} (hissued : (pushEntire (s.andCC v)).defragIssued = false) :
    exec (.cwai v) s = .next { pushEntire (s.andCC v) with wait := .cwai } := by
  have hrun : (opOf (.cwai v)).run s = { pushEntire (s.andCC v) with wait := .cwai } := rfl
  simp only [exec_next_iff, hrun, hissued, and_self]

/-- Settles O45: CWAI is ANDCC, the entire frame, and the wait. -/
theorem waitInstructions : Obligations.WaitInstructions := by
  refine ⟨fun s hdefrag => completes_of_run_eq (o := .waitSync) rfl rfl hdefrag, ?_⟩
  intro v s hdefrag m bs hclear
  have hissued : (pushEntire (s.andCC v)).defragIssued = false :=
    pushEntire_clear hdefrag ((pushesClear_congr (s.andCC_cfg v) _ _).trans hclear)
  refine ⟨_, exec_cwai hissued, rfl, ?_, ?_, ?_, fun hram => ?_⟩
  · simp only [pushEntire_sp, State.andCC_sp]
  · simp only [pushEntire, pushAll, pushItems_pc, State.setE_pc, State.andCC_pc]
  · simp only [pushEntire_cc, State.andCC_cc]
  · rw [← ramBelow_congr (s.andCC_cfg v)] at hram
    exact (pushEntire_pushedBelow hram).of_sameMemory (andCC_sameMemory s v) (withWait_sameMemory _ .cwai)

end Sys2Proof.Machine

namespace Sys2Proof

/-- Settles O44: E of the pulled CC decides between the two frames, and no pull issues DEFRAG. -/
theorem returnFromInterrupt : Obligations.ReturnFromInterrupt := by
  refine ⟨fun s hdefrag => ?_, fun s c p1 p0 hdefrag he h => ?_,
    fun s c a b dp x1 x0 y1 y0 u1 u0 p1 p0 hdefrag he h => ?_⟩
  · exact ⟨_, Machine.exec_rti hdefrag⟩
  · exact Machine.completes_of_run_eq (o := .returnFromInterrupt) rfl (Machine.returnFromInterrupt_of_fast he h) hdefrag
  · have hrun := Machine.returnFromInterrupt_of_entire he h
    exact Machine.completes_of_run_busy (o := .returnFromInterrupt) rfl hrun hdefrag

end Sys2Proof

/-! PROOFS. The stops of the machine: ill-formed configurations, and DEFRAG at the end of an instruction or an entry
(49_mmu_commands.md R488, 60_exceptions.md R560). -/

namespace Sys2Proof.Machine

/-! ### The end of an instruction, of an evaluation and of a step -/

/-- An outcome that goes on or is refused for DEFRAG. -/
def NextOrDefrag (o : Host.Outcome State Fault Refusal) : Prop := (∃ t, o = .next t) ∨ o = .refused .defragUnspecified

theorem NextOrDefrag.ne_fault {o : Host.Outcome State Fault Refusal} (h : NextOrDefrag o) (f : Fault) : o ≠ .fault f := by
  rintro rfl
  obtain ⟨t, ht⟩ | ht := h
  · cases ht
  · cases ht

theorem NextOrDefrag.refusal {o : Host.Outcome State Fault Refusal} (h : NextOrDefrag o) {r : Refusal}
    (hr : o = .refused r) : r = .defragUnspecified := by
  subst hr
  obtain ⟨t, ht⟩ | ht := h
  · cases ht
  · cases ht
    rfl

theorem finish_eq_refused {s : State} (h : s.defragIssued = true) : finish s = .refused .defragUnspecified := by
  simp [finish, h]

theorem finish_nextOrDefrag (s : State) : NextOrDefrag (finish s) := by
  cases h : s.defragIssued
  · exact .inl ⟨s, finish_eq_next h⟩
  · exact .inr (finish_eq_refused h)

theorem exec_nextOrDefrag (i : Instr) (s : State) : NextOrDefrag (exec i s) := by
  rw [exec_eq_finish]
  exact finish_nextOrDefrag _

theorem executeOne_nextOrDefrag (s : State) : NextOrDefrag (executeOne s) := by
  unfold executeOne
  split
  · exact finish_nextOrDefrag _
  · exact exec_nextOrDefrag _ _

theorem evaluate_nextOrDefrag (s : State) : NextOrDefrag (evaluate s) := by
  unfold evaluate
  dsimp only
  split
  · exact finish_nextOrDefrag _
  split
  · exact .inl ⟨_, rfl⟩
  · exact executeOne_nextOrDefrag _

/-- A step on a well-formed configuration goes on or is refused for DEFRAG (60_exceptions.md R520). -/
theorem step_nextOrDefrag {s : State} (hbus : busOk s.cfg.memMap = true) (htables : s.cfg.tablesOk = true) :
    NextOrDefrag (step s) := by
  simp only [step, tick, hbus, htables, Bool.true_eq_false, if_false]
  split
  · exact .inl ⟨_, rfl⟩
  split
  · exact .inl ⟨_, rfl⟩
  · exact evaluate_nextOrDefrag s

theorem step_of_not_busOk {s : State} (h : busOk s.cfg.memMap = false) : step s = .fault .busConfiguration := by
  simp only [step, tick, h, if_true]

theorem step_of_not_tablesOk {s : State} (hbus : busOk s.cfg.memMap = true) (h : s.cfg.tablesOk = false) :
    step s = .refused .illFormedConfiguration := by
  simp only [step, tick, hbus, h, Bool.true_eq_false, if_false, if_true]

/-- What a step answers, by its configuration (60_exceptions.md R560, 20_memory.md R84). -/
theorem step_stops (s : State) :
    (busOk s.cfg.memMap = false ∧ step s = .fault .busConfiguration) ∨
      (busOk s.cfg.memMap = true ∧ s.cfg.tablesOk = false ∧ step s = .refused .illFormedConfiguration) ∨
      (busOk s.cfg.memMap = true ∧ s.cfg.tablesOk = true ∧ NextOrDefrag (step s)) := by
  cases hbus : busOk s.cfg.memMap with
  | false => exact .inl ⟨rfl, step_of_not_busOk hbus⟩
  | true =>
    cases htables : s.cfg.tablesOk with
    | false => exact .inr (.inl ⟨rfl, rfl, step_of_not_tablesOk hbus htables⟩)
    | true => exact .inr (.inr ⟨rfl, rfl, step_nextOrDefrag hbus htables⟩)

/-- Settles O19: `exec` and `evaluate` end in `finish`, and the configuration decides before them. -/
theorem namedStops : Obligations.NamedStops := by
  refine ⟨fun i s => (exec_nextOrDefrag i s).ne_fault, fun i s r => (exec_nextOrDefrag i s).refusal, fun s => ?_, fun s => ?_,
    fun s r hr => ?_⟩
  · refine ⟨fun h => ?_, step_of_not_busOk⟩
    obtain ⟨hbus, -⟩ | ⟨-, -, hs⟩ | ⟨-, -, hs⟩ := step_stops s
    · exact hbus
    · rw [h] at hs
      cases hs
    · exact absurd h (hs.ne_fault _)
  · refine ⟨fun h => ?_, fun ⟨hbus, htables⟩ => step_of_not_tablesOk hbus htables⟩
    obtain ⟨-, hs⟩ | ⟨hbus, htables, -⟩ | ⟨-, -, hs⟩ := step_stops s
    · rw [h] at hs
      cases hs
    · exact ⟨hbus, htables⟩
    · cases hs.refusal h
  · obtain ⟨-, hs⟩ | ⟨-, -, hs⟩ | ⟨-, -, hs⟩ := step_stops s
    · rw [hr] at hs
      cases hs
    · rw [hr] at hs
      cases hs
      exact .inr rfl
    · exact .inl (hs.refusal hr)

/-! ### Writes of DEFRAG to COMMAND -/

/-- An instruction whose operation issues DEFRAG is refused. -/
theorem exec_refused_of_run {i : Instr} {o : Op} {s : State} (hop : opOf i = o) (h : (o.run s).defragIssued = true) :
    exec i s = .refused .defragUnspecified := by
  rw [exec_eq_finish, hop]
  exact finish_eq_refused h

theorem clearMem_defragIssued (e : MemForm) (s : State) :
    (clearMem e s).defragIssued = (s.defragIssued || s.issuesDefrag (MemForm.ea e s).1 0x00) := by
  simp only [clearMem, busWrite_defragIssued, MemForm.ea_defragIssued, MemForm.issuesDefrag_ea]

theorem unaryMem_defragIssued (op : UnaryOp) (e : MemForm) (s : State) :
    let p := MemForm.ea e s
    let v := busRead p.2 p.1
    (unaryMem op.unary e s).defragIssued =
      (s.defragIssued || s.issuesDefrag p.1 (op.rule v.2.cc (Config.freeFlag v.2.draws) v.1).1) := by
  intro p v
  rw [unaryMem_eq, busWrite_defragIssued, State.issuesDefrag_withFlags, busRead_ea_issuesDefrag, busRead_defragIssued,
    MemForm.ea_defragIssued]

theorem softInt_defragIssued (v : Vector) (masks : Bool) (s : State) :
    ((Op.softInt v masks).run s).defragIssued =
      (s.defragIssued || !s.pushesClear s.sp ((s.setE true).frame .s pushOrder)) := by
  simp only [softInt_run, jumpVector_defragIssued, pushEntire_defragIssued]

theorem waitCwai_defragIssued (v : Byte) (s : State) :
    ((Op.waitCwai v).run s).defragIssued =
      (s.defragIssued || !s.pushesClear s.sp (((s.andCC v).setE true).frame .s pushOrder)) := by
  have hrun : (Op.waitCwai v).run s = { pushEntire (s.andCC v) with wait := .cwai } := rfl
  simp only [hrun, pushEntire_defragIssued, pushesClear_congr (s.andCC_cfg v), State.andCC_defragIssued, State.andCC_sp]

/-! ### Interrupt entry -/

theorem Interrupt.anyLine_of_accepts {s : State} {k : Interrupt} (h : s.accepts k = true) : s.anyLine = true := by
  cases k <;> simp only [State.accepts, State.nmiEdge, Bool.and_eq_true, Bool.not_eq_true'] at h <;> simp [State.anyLine, h]

/-- The tests of the statements and those of the model choose the same interrupt (60_exceptions.md R529 to R532). -/
theorem acceptInterrupt_of_accepts {s : State} {k : Interrupt} (h : s.accepts k = true) :
    acceptInterrupt s.nmiEdge s = some k := by
  have absent {a b : Bool} (hab : (a && !b) = false) : ¬ (a = true ∧ b = false) := by rintro ⟨rfl, rfl⟩; cases hab
  have masked {a b : Bool} (hab : (!a && !b) = false) : ¬ (a = false ∧ b = false) := by rintro ⟨rfl, rfl⟩; cases hab
  unfold acceptInterrupt
  cases k <;> simp only [State.accepts, Bool.and_eq_true, Bool.not_eq_true'] at h
  case nmi => rw [if_pos h]
  case firq =>
    obtain ⟨⟨hnmi, hline⟩, hmask⟩ := h
    rw [if_neg (absent hnmi), if_pos ⟨hline, hmask⟩]
  case irq =>
    obtain ⟨⟨⟨hnmi, hfirq⟩, hline⟩, hmask⟩ := h
    rw [if_neg (absent hnmi), if_neg (masked hfirq), if_pos ⟨hline, hmask⟩]

/-- An evaluation enters the interrupt it accepts; the frame is pushed unless CWAI has pushed it (R539). -/
theorem evaluate_of_accepts {s : State} {k : Interrupt} (h : s.accepts k = true) :
    evaluate s = finish (enterInterrupt k (s.wait == .cwai && !s.cfg.cwaiEntryRestacks) s.awake) := by
  have haccept : acceptInterrupt (s.nmiHist && !s.nmiN) { s with nmiHist := s.nmiN, wait := .normal } = some k :=
    acceptInterrupt_of_accepts h
  have hservice : serviceInterrupts s =
      (true, enterInterrupt k (s.wait == .cwai && !s.cfg.cwaiEntryRestacks) s.awake) := by
    simp only [serviceInterrupts, Interrupt.anyLine_of_accepts h, haccept, Bool.true_eq_false, and_false, if_false]
    rfl
  simp only [evaluate, hservice, if_true]

theorem State.Evaluates.step_eq {s : State} (h : s.Evaluates) : step s = evaluate s := by
  obtain ⟨hcfg, hfault, hbusy, -⟩ := h
  obtain ⟨hbus, htables⟩ := Bool.and_eq_true_iff.mp hcfg
  simp [step, tick, hbus, htables, State.halted, hfault, hbusy]

theorem pushFrame_defragIssued (k : Interrupt) (s : State) :
    (pushFrame k s).defragIssued = (s.defragIssued || !s.pushesClear s.sp (s.interruptFrame k)) := by
  cases k
  case firq =>
    rw [← pushesClear_congr (s.setE_cfg false)]
    exact pushItems_defragIssued .s [.pc, .cc] (s.setE false)
  all_goals exact pushEntire_defragIssued s

/-- The end of an entry reads a vector and issues nothing. -/
theorem enterInterrupt_defragIssued (k : Interrupt) (pre : Bool) (s : State) :
    (enterInterrupt k pre s).defragIssued = (if pre then s else pushFrame k s).defragIssued := by
  simp only [enterInterrupt, jumpVector_defragIssued, State.maskInterrupts_defragIssued]

/-- An entry that pushes its frame onto COMMAND, with the DEFRAG code in it, is refused. -/
theorem step_refused_of_interruptFrame {s : State} {k : Interrupt} (hs : s.Evaluates) (hk : s.accepts k = true)
    (hpush : s.wait ≠ .cwai ∨ s.cfg.cwaiEntryRestacks = true) (hclear : s.pushesClear s.sp (s.interruptFrame k) = false) :
    step s = .refused .defragUnspecified := by
  have hpre : (s.wait == .cwai && !s.cfg.cwaiEntryRestacks) = false := by
    rcases hpush with hwait | hrestacks
    · simp [hwait]
    · simp [hrestacks]
  have hframe : s.awake.pushesClear s.awake.sp (s.awake.interruptFrame k) = false :=
    (pushesClear_congr (s := s) (t := s.awake) rfl _ _).trans (by cases k <;> exact hclear)
  rw [hs.step_eq, evaluate_of_accepts hk, hpre]
  refine finish_eq_refused ?_
  rw [enterInterrupt_defragIssued, if_neg Bool.false_ne_true, pushFrame_defragIssued, hframe, Bool.not_false, Bool.or_true]

/-- Settles O20: `defragIssued` records each such write, and `finish` refuses the state. -/
theorem defragRefused : Obligations.DefragRefused := by
  refine ⟨fun r e s h => ?_, fun r e s h => ?_, fun e s h => ?_, fun op e s h => ?_, fun k mask s h => ?_,
    fun s h => ⟨fun off => ?_, fun off => ?_⟩, fun e s h => ?_, fun v s hv h => ?_, fun v s h => ?_,
    fun s k hs hk hpush hclear => step_refused_of_interruptFrame hs hk hpush hclear⟩
  · exact exec_refused_of_run (opOf_byAcc_store r e) (by rw [Op.run, store8_defragIssued, h, Bool.or_true])
  · refine exec_refused_of_run (opOf_storeInstr16 r e) ?_
    rw [Op.run, store16_defragIssued, Bool.or_assoc, Bool.or_eq_true_iff.mpr h, Bool.or_true]
  · exact exec_refused_of_run (o := .clearMem e) rfl (by rw [Op.run, clearMem_defragIssued, h, Bool.or_true])
  · exact exec_refused_of_run (opOf_memInstr op e) (by rw [Op.run, unaryMem_defragIssued, h, Bool.or_true])
  · exact exec_refused_of_run (opOf_pushInstr k mask) (by rw [Op.run, pushMask_defragIssued, h, Bool.not_false, Bool.or_true])
  · exact exec_refused_of_run (o := .call8 off) rfl (by rw [Op.run, call_defragIssued, h, Bool.not_false, Bool.or_true])
  · exact exec_refused_of_run (o := .call16 off) rfl (by rw [Op.run, call_defragIssued, h, Bool.not_false, Bool.or_true])
  · refine exec_refused_of_run (o := .callEa e) rfl ?_
    rw [Op.run, call_defragIssued, MemForm.ea_pc, pushesClear_congr (MemForm.ea_cfg e s), h, Bool.not_false, Bool.or_true]
  · exact exec_refused_of_run (opOf_softwareInterrupt hv) (by rw [softInt_defragIssued, h, Bool.not_false, Bool.or_true])
  · exact exec_refused_of_run (o := .waitCwai v) rfl (by rw [waitCwai_defragIssued, h, Bool.not_false, Bool.or_true])

end Sys2Proof.Machine

/-! PROOFS. The dispatch of a command, and what a command leaves alone: the registers that only the dispatch, RESET and the
bus write, and the payloads (49_mmu_commands.md R460, R489, R491, R492). -/

namespace Sys2Proof.Machine

/-! ### Frames of the changes that commands are made of -/

/-- From `m` to `m'` the bank selects, `command` and `error` stayed, and `K` relates each node to what became of it. -/
structure Mmu.Frame (K : Node → Node → Prop) (m m' : Mmu) : Prop where
  bankSel1 : m'.bankSel1 = m.bankSel1
  bankSel2 : m'.bankSel2 = m.bankSel2
  command : m'.command = m.command
  error : m'.error = m.error
  nodes : ∀ i, K (m.node i) (m'.node i)

/-- A relation of nodes that does not see links or the FRAGD bit. -/
structure Node.SeesNoLink (K : Node → Node → Prop) : Prop where
  refl : ∀ n, K n n
  trans : ∀ {n n' n''}, K n n' → K n' n'' → K n n''
  links : ∀ (n : Node) (r p x : Word), K n { n with root := r, prev := p, next := x }
  fragd : ∀ (n : Node) (f : Bool), K n { n with status := withFragd n.status f }

/-- The payload is the same. -/
def Node.SamePayload (n n' : Node) : Prop := n'.data = n.data

/-- A node that is allocated now was allocated before, with this payload. -/
def Node.Remains (n n' : Node) : Prop := n'.allocated = true → n.allocated = true ∧ n'.data = n.data

/-- The payload of a node that stays allocated is the same. -/
def Node.KeepsPayload (n n' : Node) : Prop := n.allocated = true → n'.allocated = true → n'.data = n.data

theorem Node.samePayload_seesNoLink : Node.SeesNoLink Node.SamePayload :=
  ⟨fun _ => rfl, fun h h' => Eq.trans h' h, fun _ _ _ _ => rfl, fun _ _ => rfl⟩

theorem Node.remains_seesNoLink : Node.SeesNoLink Node.Remains where
  refl _ ha := ⟨ha, rfl⟩
  trans h h' ha := by
    obtain ⟨ha', hd'⟩ := h' ha
    obtain ⟨ha'', hd⟩ := h ha'
    exact ⟨ha'', hd'.trans hd⟩
  links _ _ _ _ ha := ⟨ha, rfl⟩
  fragd n f ha := ⟨(withFragd_allocated n.status f).symm.trans ha, rfl⟩

theorem Node.SamePayload.keeps {n n' : Node} (h : n.SamePayload n') : n.KeepsPayload n' := fun _ _ => h

theorem Node.Remains.keeps {n n' : Node} (h : n.Remains n') : n.KeepsPayload n' := fun _ ha => (h ha).2

section
variable {K : Node → Node → Prop} {m m' m'' : Mmu}

theorem Mmu.Frame.imp {K' : Node → Node → Prop} (h : Mmu.Frame K m m') (hK : ∀ {n n'}, K n n' → K' n n') :
    Mmu.Frame K' m m' :=
  ⟨h.bankSel1, h.bankSel2, h.command, h.error, fun i => hK (h.nodes i)⟩

/-- Other registers play no part. -/
theorem Mmu.Frame.registers (h : Mmu.Frame K m m') (hp : m''.pool = m'.pool) (h1 : m''.bankSel1 = m'.bankSel1)
    (h2 : m''.bankSel2 = m'.bankSel2) (hc : m''.command = m'.command) (he : m''.error = m'.error) : Mmu.Frame K m m'' :=
  ⟨h1.trans h.bankSel1, h2.trans h.bankSel2, hc.trans h.command, he.trans h.error,
    fun i => by rw [Mmu.node_of_pool_eq hp]; exact h.nodes i⟩

/-- Nor do they before the change. -/
theorem Mmu.Frame.of_registers (h : Mmu.Frame K m' m'') (hp : m'.pool = m.pool) (h1 : m'.bankSel1 = m.bankSel1)
    (h2 : m'.bankSel2 = m.bankSel2) (hc : m'.command = m.command) (he : m'.error = m.error) : Mmu.Frame K m m'' :=
  ⟨h.bankSel1.trans h1, h.bankSel2.trans h2, h.command.trans hc, h.error.trans he,
    fun i => by rw [← Mmu.node_of_pool_eq hp]; exact h.nodes i⟩

theorem Mmu.Frame.refl (hK : Node.SeesNoLink K) (m : Mmu) : Mmu.Frame K m m := ⟨rfl, rfl, rfl, rfl, fun _ => hK.refl _⟩

theorem Mmu.Frame.trans (hK : Node.SeesNoLink K) (h : Mmu.Frame K m m') (h' : Mmu.Frame K m' m'') : Mmu.Frame K m m'' :=
  ⟨h'.bankSel1.trans h.bankSel1, h'.bankSel2.trans h.bankSel2, h'.command.trans h.command, h'.error.trans h.error,
    fun i => hK.trans (h.nodes i) (h'.nodes i)⟩

/-- One more node written. -/
theorem Mmu.Frame.setNode (hK : Node.SeesNoLink K) (h : Mmu.Frame K m m') {i : Word} {n : Node} (hn : K (m'.node i) n) :
    Mmu.Frame K m (m'.setNode i n) :=
  h.trans hK ⟨m'.setNode_bankSel1 i n, m'.setNode_bankSel2 i n, m'.setNode_command i n, m'.setNode_error i n, fun j => by
    rw [Mmu.node_setNode]
    split
    · next hj => rw [hj.1]; exact hn
    · exact hK.refl _⟩

theorem Mmu.Frame.setLinks (hK : Node.SeesNoLink K) (h : Mmu.Frame K m m') (i r p x : Word) :
    Mmu.Frame K m (m'.setNode i { m'.node i with root := r, prev := p, next := x }) :=
  h.setNode hK (hK.links _ r p x)

theorem Mmu.Frame.setRoot (hK : Node.SeesNoLink K) (h : Mmu.Frame K m m') (i v : Word) : Mmu.Frame K m (m'.setRoot i v) :=
  h.setNode hK (hK.links _ v _ _)

theorem Mmu.Frame.setPrev (hK : Node.SeesNoLink K) (h : Mmu.Frame K m m') (i v : Word) : Mmu.Frame K m (m'.setPrev i v) :=
  h.setNode hK (hK.links _ _ v _)

theorem Mmu.Frame.setNext (hK : Node.SeesNoLink K) (h : Mmu.Frame K m m') (i v : Word) : Mmu.Frame K m (m'.setNext i v) :=
  h.setNode hK (hK.links _ _ _ v)

theorem Mmu.Frame.addFragged (h : Mmu.Frame K m m') (v : Word) : Mmu.Frame K m (m'.addFragged v) :=
  h.registers rfl rfl rfl rfl rfl

theorem Mmu.Frame.setFragd (hK : Node.SeesNoLink K) (h : Mmu.Frame K m m') (i : Word) (f : Bool) :
    Mmu.Frame K m (m'.setStatus i (withFragd (m'.node i).status f)) :=
  h.setNode hK (hK.fragd _ f)

theorem Mmu.Frame.refrag (hK : Node.SeesNoLink K) (h : Mmu.Frame K m m') (i : Word) : Mmu.Frame K m (m'.refrag i) := by
  unfold Mmu.refrag
  split
  · exact h
  · exact h.setFragd hK i _

theorem Mmu.Frame.setRoots (hK : Node.SeesNoLink K) (h : Mmu.Frame K m m') (xs : List Word) (r : Word) :
    Mmu.Frame K m (m'.setRoots xs r) := by
  unfold Mmu.setRoots
  induction xs generalizing m' with
  | nil => exact h
  | cons x xs ih => exact ih (h.setRoot hK x r)

/-- A change that is made or not. -/
theorem Mmu.Frame.ite {b : Prop} [Decidable b] (h : Mmu.Frame K m m') (h' : Mmu.Frame K m m'') :
    Mmu.Frame K m (if b then m' else m'') := by
  split
  · exact h
  · exact h'

theorem Mmu.Frame.linkAfter (hK : Node.SeesNoLink K) (h : Mmu.Frame K m m') (last f : Word) :
    Mmu.Frame K m (m'.linkAfter last f) := by
  have hlink := h.setNext hK last f
  exact .ite h (.ite ((((hlink.setFragd hK last true).setFragd hK f true).addFragged 1)) hlink)

/-! ### Changes that take nodes keep every payload; changes that release nodes add none -/

theorem Mmu.Frame.take (h : Mmu.Frame Node.SamePayload m m') (f : Word) (t : Byte) :
    Mmu.Frame Node.SamePayload m (m'.take f t) :=
  (h.setNode Node.samePayload_seesNoLink rfl : Mmu.Frame _ _ (m'.setStatus f (templateStatus t))).registers rfl rfl rfl rfl rfl

theorem Mmu.Frame.buildNode (h : Mmu.Frame Node.SamePayload m m') (t : Byte) (rootn last f : Word) :
    Mmu.Frame Node.SamePayload m (m'.buildNode t rootn last f) :=
  ((h.take f t).setLinks Node.samePayload_seesNoLink f rootn last noNode).linkAfter Node.samePayload_seesNoLink last f

theorem Mmu.Frame.buildChainFrom (h : Mmu.Frame Node.SamePayload m m') (t : Byte) (k : Nat) (rootn last : Word) :
    Mmu.Frame Node.SamePayload m (buildChainFrom t k rootn last m').2 := by
  induction k generalizing m' rootn last with
  | zero => exact h
  | succ k ih =>
    rw [buildChainFrom_succ]
    split
    · exact h
    · exact ih (h.buildNode t _ _ _) _ _

theorem Mmu.frame_spliceAfter (m : Mmu) (f c n : Word) : Mmu.Frame Node.SamePayload m (m.spliceAfter f c n) := by
  have hK := Node.samePayload_seesNoLink
  have htaken := (Mmu.Frame.refl hK m).take f (loByte m.arg2)
  have hnext := (htaken.setLinks hK f ((m.take f (loByte m.arg2)).node c).root c n).setNext hK c f
  have hjoin : Mmu.Frame Node.SamePayload m (m.joinAfter f c n) :=
    (Mmu.Frame.ite (b := n = noNode) hnext ((hnext.setPrev hK n f).addFragged (disc f n - disc c n))).addFragged (disc c f)
  rw [Mmu.spliceAfter_eq]
  exact (((hjoin.refrag hK c).refrag hK f).refrag hK n).registers rfl rfl rfl rfl rfl

theorem Mmu.frame_spliceBefore (m : Mmu) (f c p : Word) : Mmu.Frame Node.SamePayload m (m.spliceBefore f c p) := by
  have hK := Node.samePayload_seesNoLink
  have hlink : Mmu.Frame Node.SamePayload m (m.linkBefore f c p) :=
    (((Mmu.Frame.refl hK m).take f (loByte m.arg2)).setLinks hK f ((m.take f (loByte m.arg2)).node f).root p c).setPrev hK c f
  have hhead : Mmu.Frame Node.SamePayload m
      { (m.linkBefore f c p).setRoots ((m.linkBefore f c p).chainOf f) f with arg1 := f } :=
    (hlink.setRoots hK _ f).registers rfl rfl rfl rfl rfl
  have hinner := ((hlink.setNext hK p f).setRoot hK f (((m.linkBefore f c p).setNext p f).node c).root).addFragged
    (disc p f - disc p c)
  have hjoin : Mmu.Frame Node.SamePayload m (m.joinBefore f c p) :=
    (Mmu.Frame.ite (b := p = noNode) hhead hinner).addFragged (disc f c)
  rw [Mmu.spliceBefore_eq]
  exact (((hjoin.refrag hK p).refrag hK f).refrag hK c).registers rfl rfl rfl rfl rfl

theorem Mmu.Frame.release (h : Mmu.Frame Node.Remains m m') (n : Word) : Mmu.Frame Node.Remains m (m'.release n) :=
  (h.setNode (i := n) (n := Node.free) Node.remains_seesNoLink fun ha => absurd ha (by decide)).registers rfl rfl rfl rfl rfl

theorem Mmu.Frame.releaseAll (h : Mmu.Frame Node.Remains m m') (xs : List Word) :
    Mmu.Frame Node.Remains m (xs.foldl Mmu.release m') := by
  induction xs generalizing m' with
  | nil => exact h
  | cons x xs ih => exact ih (h.release x)

theorem Mmu.frame_freeChain (m : Mmu) (h : Word) : Mmu.Frame Node.Remains m (m.freeChain h) :=
  ((Mmu.Frame.refl Node.remains_seesNoLink m).addFragged _).releaseAll _

theorem Mmu.frame_unlink (m : Mmu) (c p n : Word) : Mmu.Frame Node.Remains m (m.unlink c p n) := by
  have hK := Node.remains_seesNoLink
  have hleft : Mmu.Frame Node.Remains m (if p = noNode then m else m.addFragged (0 - disc p c)) :=
    .ite (.refl hK m) ((Mmu.Frame.refl hK m).addFragged _)
  have hright := Mmu.Frame.ite (b := n = noNode) hleft (hleft.addFragged (0 - disc c n))
  have hcount : Mmu.Frame Node.Remains m (m.countCut c p n) :=
    .ite (b := p = noNode ∨ n = noNode) hright (hright.addFragged (disc p n))
  have hnext := Mmu.Frame.ite (b := p = noNode) hcount (hcount.setNext hK p n)
  have haround : Mmu.Frame Node.Remains m ((m.countCut c p n).linkAround c p n) :=
    (Mmu.Frame.ite (b := n = noNode) hnext (hnext.setPrev hK n p)).release c
  have hroots := Mmu.Frame.ite (b := n = noNode) haround 
    (haround.setRoots hK (((m.countCut c p n).linkAround c p n).chainOf n) n)
  have hcut : Mmu.Frame Node.Remains m ((m.countCut c p n).cutOut c p n) :=
    .ite (b := p = noNode) (hroots.registers rfl rfl rfl rfl rfl) haround
  rw [Mmu.unlink_eq]
  exact ((hcut.refrag hK p).refrag hK n).registers rfl rfl rfl rfl rfl

end

/-! ### The frame of a command -/

section
variable {m : Mmu} {e : ErrorCodes}

/-- A composed command is its first part, failed; or its second after the first, with another cursor where it failed. -/
theorem Mmu.compose_cases (first second : Mmu → CommandResult) (m : Mmu) :
    (∃ code, (first m).2 = some code ∧ m.compose first second = first m) ∨
      (first m).2 = none ∧ ((second (first m).1).2 = none ∧ m.compose first second = second (first m).1 ∨
        ∃ code r, (second (first m).1).2 = some code ∧
          m.compose first second = ({ (second (first m).1).1 with rawIndex := r }, some code)) := by
  unfold Mmu.compose
  split
  · next m' code hr => exact .inl ⟨code, by rw [hr], hr.symm⟩
  · next m' hr =>
    refine .inr ⟨by rw [hr], ?_⟩
    rw [hr]
    split
    · next hr' => exact .inl ⟨by rw [hr'], hr'.symm⟩
    · next code hr' => exact .inr ⟨code, _, by rw [hr'], by rw [hr']⟩

/-- A command that moves the cursor at most. -/
def CommandResult.OnlyCursor (m : Mmu) (r : CommandResult) : Prop := ∃ i, r.1 = { m with rawIndex := i }

theorem Mmu.onCursor_onlyCursor {f : Word → CommandResult} (hf : ∀ c, (f c).OnlyCursor m) :
    (m.onCursor e f).OnlyCursor m := by
  unfold Mmu.onCursor
  split
  · exact ⟨m.rawIndex, rfl⟩
  · exact hf _

theorem Mmu.loadRoot_onlyCursor (e : ErrorCodes) (m : Mmu) : (m.loadRoot e).OnlyCursor m :=
  Mmu.onCursor_onlyCursor fun _ => ⟨_, rfl⟩

theorem Mmu.loadLast_onlyCursor (e : ErrorCodes) (m : Mmu) : (m.loadLast e).OnlyCursor m :=
  Mmu.onCursor_onlyCursor fun _ => ⟨_, rfl⟩

/-- LOAD_NEXT and LOAD_PREV. -/
theorem onlyCursor_ite {b : Prop} [Decidable b] (code : Byte) (i : Word) :
    CommandResult.OnlyCursor m (if b then (m, some code) else ({ m with rawIndex := i }, none)) := by
  split
  · exact ⟨m.rawIndex, rfl⟩
  · exact ⟨i, rfl⟩

/-- What a command but RESET leaves alone (R492). -/
abbrev Mmu.CommandFrame (m : Mmu) (r : CommandResult) : Prop := Mmu.Frame Node.KeepsPayload m r.1

theorem Mmu.Frame.idle (m : Mmu) : Mmu.Frame Node.KeepsPayload m m := ⟨rfl, rfl, rfl, rfl, fun _ _ _ => rfl⟩

theorem CommandResult.OnlyCursor.commandFrame {r : CommandResult} (h : r.OnlyCursor m) : m.CommandFrame r := by
  obtain ⟨i, hi⟩ := h
  rw [Mmu.CommandFrame, hi]
  exact (Mmu.Frame.idle m).registers rfl rfl rfl rfl rfl

theorem Mmu.onCursor_commandFrame {f : Word → CommandResult} (hf : ∀ c, m.CommandFrame (f c)) :
    m.CommandFrame (m.onCursor e f) := by
  unfold Mmu.onCursor
  split
  · exact .idle m
  · exact hf _

theorem Mmu.delNode_commandFrame (e : ErrorCodes) (m : Mmu) : m.CommandFrame (m.delNode e) :=
  Mmu.onCursor_commandFrame fun c => by
    split
    · exact .idle m
    · exact (m.frame_unlink c _ _).imp Node.Remains.keeps

theorem Mmu.insBefore_commandFrame (e : ErrorCodes) (m : Mmu) : m.CommandFrame (m.insBefore e) :=
  Mmu.onCursor_commandFrame fun c => by
    split
    · exact .idle m
    split
    · exact .idle m
    · exact (m.frame_spliceBefore _ c _).imp Node.SamePayload.keeps

theorem Mmu.insAfter_commandFrame (e : ErrorCodes) (m : Mmu) : m.CommandFrame (m.insAfter e) :=
  Mmu.onCursor_commandFrame fun c => by
    split
    · exact .idle m
    · exact (m.frame_spliceAfter _ c _).imp Node.SamePayload.keeps

/-- A move of the cursor and then a command with this frame. -/
theorem Mmu.compose_commandFrame {first second : Mmu → CommandResult} (h1 : (first m).OnlyCursor m)
    (h2 : ∀ m : Mmu, m.CommandFrame (second m)) : m.CommandFrame (m.compose first second) := by
  have hmoved : m.CommandFrame (second (first m).1) := by
    obtain ⟨i, hi⟩ := h1
    rw [hi]
    exact (h2 _).of_registers rfl rfl rfl rfl rfl
  obtain ⟨_, -, h⟩ | ⟨-, ⟨-, h⟩ | ⟨_, _, -, h⟩⟩ := m.compose_cases first second
  · rw [h]
    exact h1.commandFrame
  · rw [h]
    exact hmoved
  · rw [h]
    exact hmoved.registers rfl rfl rfl rfl rfl

theorem Mmu.buildChain_commandFrame (m : Mmu) (count : Nat) (t : Byte) :
    Mmu.Frame Node.KeepsPayload m (m.buildChain count t).2 :=
  ((Mmu.Frame.refl Node.samePayload_seesNoLink m).buildChainFrom t count noNode noNode).imp Node.SamePayload.keeps

theorem Mmu.setStatus_commandFrame (m : Mmu) (c : Word) (v : Byte) : Mmu.Frame Node.KeepsPayload m (m.setStatus c v) :=
  ((Mmu.Frame.refl Node.samePayload_seesNoLink m).setNode Node.samePayload_seesNoLink rfl :
    Mmu.Frame Node.SamePayload m (m.setStatus c v)).imp Node.SamePayload.keeps

/-- Every command but RESET keeps to its frame (R492). -/
theorem Mmu.run_commandFrame (e : ErrorCodes) (m : Mmu) {k : MmuCommand} (hk : k ≠ .reset) : m.CommandFrame (m.run e k) := by
  cases k with
  | reset => exact absurd rfl hk
  | nop => exact .idle m
  | defrag => exact .idle m
  | loadRoot => exact (m.loadRoot_onlyCursor e).commandFrame
  | loadLast => exact (m.loadLast_onlyCursor e).commandFrame
  | loadNext => exact Mmu.onCursor_commandFrame fun c => (onlyCursor_ite _ _).commandFrame
  | loadPrev => exact Mmu.onCursor_commandFrame fun c => (onlyCursor_ite _ _).commandFrame
  | delNode => exact m.delNode_commandFrame e
  | insBefore => exact m.insBefore_commandFrame e
  | insAfter => exact m.insAfter_commandFrame e
  | pushBack => exact Mmu.compose_commandFrame (m.loadLast_onlyCursor e) (Mmu.insAfter_commandFrame e)
  | pushFront => exact Mmu.compose_commandFrame (m.loadRoot_onlyCursor e) (Mmu.insBefore_commandFrame e)
  | popBack => exact Mmu.compose_commandFrame (m.loadLast_onlyCursor e) (Mmu.delNode_commandFrame e)
  | popFront => exact Mmu.compose_commandFrame (m.loadRoot_onlyCursor e) (Mmu.delNode_commandFrame e)
  | lockNode => exact Mmu.onCursor_commandFrame fun c => m.setStatus_commandFrame c _
  | unlockNode => exact Mmu.onCursor_commandFrame fun c => m.setStatus_commandFrame c _
  | size =>
    show m.CommandFrame (m.size e)
    unfold Mmu.size
    split
    · exact .idle m
    · exact (Mmu.Frame.idle m).registers rfl rfl rfl rfl rfl
  | free =>
    show m.CommandFrame (m.free e)
    unfold Mmu.free
    split
    · exact .idle m
    split
    · exact .idle m
    · exact ((m.frame_freeChain _).imp Node.Remains.keeps).registers rfl rfl rfl rfl rfl
  | pgFree =>
    show m.CommandFrame (m.pgFree e)
    unfold Mmu.pgFree
    split
    · exact .idle m
    · exact ((m.frame_freeChain _).imp Node.Remains.keeps).registers rfl rfl rfl rfl rfl
  | alloc =>
    show m.CommandFrame (m.alloc e)
    unfold Mmu.alloc
    split
    · exact (Mmu.Frame.idle m).registers rfl rfl rfl rfl rfl
    · have hbuilt := m.buildChain_commandFrame m.arg1.toNat (loByte m.arg2)
      exact .ite (hbuilt.registers rfl rfl rfl rfl rfl) (hbuilt.registers rfl rfl rfl rfl rfl)
  | pgAlloc =>
    show m.CommandFrame (m.pgAlloc e)
    unfold Mmu.pgAlloc
    split
    · exact (Mmu.Frame.idle m).registers rfl rfl rfl rfl rfl
    · exact (m.buildChain_commandFrame _ _).registers rfl rfl rfl rfl rfl

end

/-- Settles O56, from the frame of a command. -/
theorem commandFrame : Obligations.CommandFrame := by
  intro e m k hk
  obtain ⟨h1, h2, -, -, hnodes⟩ := m.run_commandFrame e hk
  exact ⟨h1, h2, hnodes⟩

/-! ### The dispatch of a command -/

section
variable {cfg : Config} {m : Mmu} {v : Byte}

theorem Config.wf_errors_none (h : cfg.wf = true) : cfg.errors.none = 0x00 := by
  simp only [Config.wf, Config.tablesOk, Bool.and_eq_true, beq_iff_eq] at h
  exact h.2.1.2

theorem Mmu.dispatch_of_unknown (h : commandOf cfg v = none) :
    m.dispatch cfg v = { m with command := 0x00, error := cfg.errors.invalid } := by
  simp [Mmu.dispatch, h, Mmu.fail]

theorem Mmu.dispatch_of_known {k : MmuCommand} (h : commandOf cfg v = some k) :
    m.dispatch cfg v = settle ({ m with command := v, error := cfg.errors.none }.run cfg.errors k) := by
  simp [Mmu.dispatch, h]

theorem settle_of_none {r : CommandResult} (h : r.2 = none) : settle r = r.1 := by
  obtain ⟨m, o⟩ := r
  cases h
  rfl

theorem settle_of_some {r : CommandResult} {code : Byte} (h : r.2 = some code) :
    settle r = { r.1 with command := 0x00, error := code } := by
  obtain ⟨m, o⟩ := r
  cases h
  rfl

/-- Every command, RESET too, leaves `command` and a clear `error` to the dispatch (R460, R489). -/
theorem Mmu.run_command_error (e : ErrorCodes) (k : MmuCommand) (herror : m.error = 0x00) :
    (m.run e k).1.command = m.command ∧ (m.run e k).1.error = 0x00 := by
  by_cases hk : k = .reset
  · subst hk
    exact ⟨rfl, rfl⟩
  · obtain ⟨-, -, hc, he, -⟩ := m.run_commandFrame e hk
    exact ⟨hc, he.trans herror⟩

theorem busWrite_command_mmu {s : State} {a : Addr} {o j : Nat} (hl : s.locate a = some (.mmuReg, o))
    (hr : mmuRegAt s.cfg o = some (.command, j)) : (busWrite s a v).mmu = s.mmu.dispatch s.cfg v := by
  simp only [busWrite, hl, mmuRegWrite, hr, if_true, mmuDispatch]

end

/-- Settles O51: the dispatch writes `command` and `error` before and after the command, which leaves them alone. -/
theorem commandDispatch : Obligations.CommandDispatch := by
  refine ⟨fun s a v o j hl hr => busWrite_command_mmu hl hr, fun cfg m v hwf => ?_⟩
  have hnone := Config.wf_errors_none hwf
  refine ⟨fun h => Mmu.dispatch_of_unknown h, fun h => ?_, fun k h => ?_⟩
  · rw [Mmu.dispatch_of_known h, hnone]
    rfl
  · rw [Mmu.dispatch_of_known h, hnone]
    refine ⟨fun hr => ?_, fun code hr => settle_of_some hr⟩
    rw [settle_of_none hr]
    exact ⟨rfl, Mmu.run_command_error cfg.errors k rfl⟩

/-- Settles O52: RESET gives the MMU as constructed, but for `command`. -/
theorem mmuReset : Obligations.MmuReset := by
  intro s v hwf h t
  have hmmu : t.mmu = { Mmu.construct with command := v } := Mmu.dispatch_of_known h
  have hnode : ∀ i, t.mmu.node i = Node.free := fun i => by rw [hmmu]; rfl
  have hsel : ∀ k, t.mmu.bankSel k = noNode := fun k => by rw [hmmu]; cases k <;> rfl
  refine ⟨hmmu, hnode, rfl, rfl, fun h => ?_, fun k o => ?_⟩
  · rw [Mmu.validHandle, hnode, Node.free_fields.1, Bool.and_false, Bool.false_and]
  · rw [bankLocate, if_pos (hsel k)]

end Sys2Proof.Machine

/-! PROOFS. What a failing command leaves behind, the cursor commands, and the lock bit (49_mmu_commands.md R460, R469, R475 to
R478, R486, R487, R492). -/

namespace Sys2Proof.Machine

section
variable {m : Mmu} {e : ErrorCodes} {k : MmuCommand} {code : Byte}

/-! ### Failing commands -/

/-- A command that changes nothing where it fails. -/
def CommandResult.FailsClean (m : Mmu) (r : CommandResult) : Prop := ∀ code, r.2 = some code → r.1 = m

theorem failsClean_idle (m : Mmu) (o : Option Byte) : CommandResult.FailsClean m (m, o) := fun _ _ => rfl

theorem failsClean_done (m m' : Mmu) : CommandResult.FailsClean m (m', none) := fun _ h => nomatch h

theorem CommandResult.FailsClean.ite {b : Prop} [Decidable b] {r r' : CommandResult} (h : r.FailsClean m)
    (h' : r'.FailsClean m) : CommandResult.FailsClean m (if b then r else r') := by
  split
  · exact h
  · exact h'

theorem Mmu.onCursor_failsClean {f : Word → CommandResult} (hf : ∀ c, (f c).FailsClean m) :
    (m.onCursor e f).FailsClean m := by
  unfold Mmu.onCursor
  split
  · exact failsClean_idle m _
  · exact hf _

theorem Mmu.loadRoot_failsClean (e : ErrorCodes) (m : Mmu) : (m.loadRoot e).FailsClean m :=
  Mmu.onCursor_failsClean fun _ => failsClean_done m _

theorem Mmu.loadLast_failsClean (e : ErrorCodes) (m : Mmu) : (m.loadLast e).FailsClean m :=
  Mmu.onCursor_failsClean fun _ => failsClean_done m _

theorem Mmu.delNode_failsClean (e : ErrorCodes) (m : Mmu) : (m.delNode e).FailsClean m :=
  Mmu.onCursor_failsClean fun _ => .ite (failsClean_idle m _) (failsClean_done m _)

theorem Mmu.insBefore_failsClean (e : ErrorCodes) (m : Mmu) : (m.insBefore e).FailsClean m :=
  Mmu.onCursor_failsClean fun _ => .ite (failsClean_idle m _) (by
    split
    · exact failsClean_idle m _
    · exact failsClean_done m _)

theorem Mmu.insAfter_failsClean (e : ErrorCodes) (m : Mmu) : (m.insAfter e).FailsClean m :=
  Mmu.onCursor_failsClean fun _ => by
    split
    · exact failsClean_idle m _
    · exact failsClean_done m _

theorem Mmu.pgAlloc_failed (h : (m.pgAlloc e).2 = some code) : (m.pgAlloc e).1 = { m with arg1 := noNode } := by
  unfold Mmu.pgAlloc at h ⊢
  split at h
  · next hfull => rw [if_pos hfull]
  · cases h

theorem Mmu.alloc_badCount (h : m.arg1.toNat < 1 ∨ 256 < m.arg1.toNat) :
    m.alloc e = ({ m with arg1 := noNode }, some e.argument) := if_pos h

/-- The commands that run two others (R482 to R485). -/
def composedCommands : List MmuCommand := [.pushBack, .pushFront, .popBack, .popFront]

/-- A composed command that fails has moved the cursor at most (log 18). -/
theorem Mmu.compose_failed {first second : Mmu → CommandResult} (h1 : (first m).OnlyCursor m)
    (h2 : ∀ m : Mmu, (second m).FailsClean m) (h : (m.compose first second).2 = some code) :
    (m.compose first second).OnlyCursor m := by
  obtain ⟨_, -, hc⟩ | ⟨-, ⟨hok, hc⟩ | ⟨code', r, hfail, hc⟩⟩ := m.compose_cases first second
  · rw [hc]
    exact h1
  · rw [hc, hok] at h
    cases h
  · obtain ⟨i, hi⟩ := h1
    refine ⟨r, ?_⟩
    rw [hc, h2 _ _ hfail, hi]

theorem Mmu.run_composed_failed (hk : k ∈ composedCommands) (h : (m.run e k).2 = some code) :
    (m.run e k).OnlyCursor m := by
  simp only [composedCommands, List.mem_cons, List.not_mem_nil, or_false] at hk
  rcases hk with rfl | rfl | rfl | rfl
  · exact Mmu.compose_failed (m.loadLast_onlyCursor e) (Mmu.insAfter_failsClean e) h
  · exact Mmu.compose_failed (m.loadRoot_onlyCursor e) (Mmu.insBefore_failsClean e) h
  · exact Mmu.compose_failed (m.loadLast_onlyCursor e) (Mmu.delNode_failsClean e) h
  · exact Mmu.compose_failed (m.loadRoot_onlyCursor e) (Mmu.delNode_failsClean e) h

/-- Any other command changes nothing where it fails (R460, R492). -/
theorem Mmu.run_failsClean (e : ErrorCodes) (m : Mmu) (hpg : k ≠ .pgAlloc) (halloc : k ≠ .alloc)
    (hk : k ∉ composedCommands) : (m.run e k).FailsClean m := by
  cases k with
  | pgAlloc => exact absurd rfl hpg
  | alloc => exact absurd rfl halloc
  | pushBack | pushFront | popBack | popFront => exact absurd (by decide) hk
  | nop | defrag => exact failsClean_idle m _
  | pgFree => exact .ite (failsClean_idle m _) (failsClean_done m _)
  | free => exact .ite (failsClean_idle m _) (.ite (failsClean_idle m _) (failsClean_done m _))
  | loadRoot => exact m.loadRoot_failsClean e
  | loadNext | loadPrev => exact Mmu.onCursor_failsClean fun _ => .ite (failsClean_idle m _) (failsClean_done m _)
  | loadLast => exact m.loadLast_failsClean e
  | delNode => exact m.delNode_failsClean e
  | insBefore => exact m.insBefore_failsClean e
  | insAfter => exact m.insAfter_failsClean e
  | lockNode | unlockNode => exact Mmu.onCursor_failsClean fun _ => failsClean_done m _
  | reset => exact failsClean_done m _
  | size => exact .ite (failsClean_idle m _) (failsClean_done m _)

/-- What a failing command leaves behind, but for `command` and `error`, which the dispatch writes. -/
theorem Mmu.run_failed (h : (m.run e k).2 = some code) (hcount : k = .alloc → m.arg1.toNat < 1 ∨ 256 < m.arg1.toNat) :
    ((k = .pgAlloc ∨ k = .alloc) ∧ (m.run e k).1 = { m with arg1 := noNode }) ∨
      k ≠ .pgAlloc ∧ k ≠ .alloc ∧ (k ∈ composedCommands ∧ (m.run e k).OnlyCursor m ∨ (m.run e k).1 = m) := by
  by_cases hpg : k = .pgAlloc
  · subst hpg
    exact .inl ⟨.inl rfl, Mmu.pgAlloc_failed h⟩
  by_cases halloc : k = .alloc
  · have hbad : (m.alloc e).1 = { m with arg1 := noNode } := by rw [Mmu.alloc_badCount (hcount halloc)]
    subst halloc
    exact .inl ⟨.inr rfl, hbad⟩
  refine .inr ⟨hpg, halloc, ?_⟩
  by_cases hk : k ∈ composedCommands
  · exact .inl ⟨hk, Mmu.run_composed_failed hk h⟩
  · exact .inr (m.run_failsClean e hpg halloc hk _ h)

end

/-- Settles O55: a failing command has changed ARG_1, or the cursor, or nothing. -/
theorem failedCommands : Obligations.FailedCommands := by
  intro e m k code h hcount
  obtain ⟨hk, ht⟩ | ⟨hpg, halloc, ⟨hk, i, ht⟩ | ht⟩ := Mmu.run_failed h hcount
  · have hplain : k ∉ composedCommands := by rcases hk with rfl | rfl <;> decide
    rw [ht]
    exact ⟨rfl, rfl, rfl, rfl, rfl, rfl, rfl, fun h1 h2 => absurd hk (not_or.mpr ⟨h1, h2⟩), fun _ => rfl, fun _ => rfl⟩
  · rw [ht]
    exact ⟨rfl, rfl, rfl, rfl, rfl, rfl, rfl, fun _ _ => rfl, fun h1 => absurd h1 (not_or.mpr ⟨hpg, halloc⟩),
      fun h1 => absurd hk h1⟩
  · rw [ht]
    exact ⟨rfl, rfl, rfl, rfl, rfl, rfl, rfl, fun _ _ => rfl, fun h1 => absurd h1 (not_or.mpr ⟨hpg, halloc⟩), fun _ => rfl⟩

/-! ### The cursor commands -/

section
variable {m : Mmu} {c : Word}

theorem Mmu.onCursor_of_none (h : m.cursor = none) (e : ErrorCodes) (f : Word → CommandResult) :
    m.onCursor e f = (m, some e.node) := by
  rw [Mmu.onCursor, h]

theorem Mmu.onCursor_of_some (h : m.cursor = some c) (e : ErrorCodes) (f : Word → CommandResult) : m.onCursor e f = f c := by
  rw [Mmu.onCursor, h]

theorem Mmu.compose_of_failed {first : Mmu → CommandResult} {code : Byte} (h : first m = (m, some code))
    (second : Mmu → CommandResult) : m.compose first second = (m, some code) := by
  rw [Mmu.compose, h]

/-- A walk that is long enough ends on the last node of a complete chain (R478). -/
theorem Mmu.Chain.lastFrom {l : List Word} (h : m.Chain c l) (hc : c ≠ noNode) {k : Nat} (hk : l.length ≤ k + 1) :
    lastFrom m k c ∈ l ∧ (m.node (lastFrom m k c)).next = noNode := by
  induction h generalizing k with
  | nil => exact absurd rfl hc
  | @cons i l hi hl ih =>
    by_cases hn : (m.node i).next = noNode
    · have hlast : Machine.lastFrom m k i = i := by cases k <;> simp [Machine.lastFrom, hn]
      rw [hlast]
      exact ⟨List.mem_cons_self, hn⟩
    · have hpos := List.length_pos_of_mem (hl.head_mem hn)
      rw [List.length_cons] at hk
      obtain ⟨k, rfl⟩ : ∃ j, k = j + 1 := ⟨k - 1, by omega⟩
      obtain ⟨hmem, hnext⟩ := ih hn (k := k) (by omega)
      rw [Machine.lastFrom, if_neg hn]
      exact ⟨List.mem_cons_of_mem _ hmem, hnext⟩

/-- LOAD_LAST ends on the last node of the cursor's chain. -/
theorem Mmu.Linked.lastFrom {rank : Word → Nat} (h : m.Linked rank) (hc : (m.node c).allocated = true) :
    (m.node (lastFrom m nodes c)).allocated = true ∧ (m.node (lastFrom m nodes c)).next = noNode ∧
      (m.node (lastFrom m nodes c)).root = (m.node c).root := by
  obtain ⟨hchain, hnodup, hmem⟩ := (h.climbs (m.node c).root).chainOf (i := c) ⟨hc, rfl⟩
  have hlen : (m.chainOf c).length ≤ nodes := length_le_nodes hnodup fun i hi => h.inPool i (hmem i hi).1
  obtain ⟨hlast, hnext⟩ := hchain.lastFrom (h.ne_noNode hc) (Nat.le_succ_of_le hlen)
  obtain ⟨halloc, hroot⟩ := hmem _ hlast
  exact ⟨halloc, hnext, hroot⟩

end

/-- Settles O57: each cursor command is `onCursor` of its move, or begins with one. -/
theorem cursorCommands : Obligations.CursorCommands := by
  refine fun e m => ⟨fun hnone => ?_, fun c hsome => ?_⟩
  · have hfail (f : Word → CommandResult) : m.onCursor e f = (m, some e.node) := Mmu.onCursor_of_none hnone e f
    simp only [List.forall_mem_cons]
    exact ⟨hfail _, hfail _, hfail _, hfail _, hfail _, hfail _, hfail _, Mmu.compose_of_failed (hfail _) _,
      Mmu.compose_of_failed (hfail _) _, Mmu.compose_of_failed (hfail _) _, Mmu.compose_of_failed (hfail _) _, hfail _, hfail _,
      fun _ h => absurd h List.not_mem_nil⟩
  · have hrun (f : Word → CommandResult) : m.onCursor e f = f c := Mmu.onCursor_of_some hsome e f
    exact ⟨hrun _, hrun _, hrun _, fun hchains => ⟨_, hrun _, hchains.linked.lastFrom (Mmu.cursor_spec hsome).2.2⟩⟩

/-! ### The lock bit (R486, R487, 20_memory.md R98) -/

section
variable {m : Mmu} {i : Word}

theorem Mmu.payloadWritable_of_sealed (h : (m.node i).sealed = true) : m.payloadWritable i = false := by
  simp [Mmu.payloadWritable, h]

theorem Mmu.payloadWritable_of_sealed_root (h : (m.node (m.node i).root).sealed = true) : m.payloadWritable i = false := by
  simp [Mmu.payloadWritable, h]

theorem Node.sealed_of_locked (n : Node) (st : Byte) : Node.sealed { n with status := st ||| statusLocked } = true := by
  simp [Node.sealed, statusLocked]

/-- Writing a status byte writes the pool alone. -/
theorem Mmu.setStatus_restore_pool (m : Mmu) (i : Word) (v : Byte) : { m.setStatus i v with pool := m.pool } = m := by
  rw [Mmu.setStatus, Mmu.setNode_eq]

theorem Mmu.node_setStatus_same (hi : i.toNat < nodes) (v : Byte) :
    (m.setStatus i v).node i = { m.node i with status := v } := m.node_setNode_same _ hi

theorem Mmu.node_setStatus_other {j : Word} (h : j ≠ i) (v : Byte) : (m.setStatus i v).node j = m.node j :=
  m.node_setNode_other _ h

theorem Mmu.root_setStatus (m : Mmu) (i j : Word) (v : Byte) : ((m.setStatus i v).node j).root = (m.node j).root := by
  rw [Mmu.node_setStatus]

end

/-- Settles O60: both commands write the cursor's status, and bit 4 seals the node and the chain it heads. -/
theorem lockNode : Obligations.LockNode := by
  intro e m c hc l u
  have hcp := (Mmu.cursor_spec hc).2.1
  have hlock : m.run e .lockNode = (m.setStatus c ((m.node c).status ||| statusLocked), none) := Mmu.onCursor_of_some hc e _
  have hunlock : m.run e .unlockNode = (m.setStatus c ((m.node c).status &&& ~~~statusLocked), none) :=
    Mmu.onCursor_of_some hc e _
  have hsealed : ((m.setStatus c ((m.node c).status ||| statusLocked)).node c).sealed = true := by
    rw [Mmu.node_setStatus_same hcp]
    exact Node.sealed_of_locked _ _
  simp only [l, u, hlock, hunlock]
  refine ⟨trivial, trivial, Mmu.node_setStatus_same hcp _, Mmu.node_setStatus_same hcp _,
    fun i hi => ⟨Mmu.node_setStatus_other hi _, Mmu.node_setStatus_other hi _⟩, m.setStatus_restore_pool c _,
    m.setStatus_restore_pool c _, Mmu.payloadWritable_of_sealed hsealed, fun i hi => Mmu.payloadWritable_of_sealed_root ?_⟩
  rw [Mmu.root_setStatus, hi]
  exact hsealed

end Sys2Proof.Machine

/-! PROOFS. FREE and PG_FREE give back the nodes of a chain, and ALLOC builds one (49_mmu_commands.md R462 to R468, R472 to
R474). -/

namespace Sys2Proof.Machine

/-! ### Indices outside the pool -/

theorem sparseWf_key_lt {α : Type} [DecidableEq α] {d : α} {bound : Nat} {l : List (Nat × α)}
    (h : sparseWf d bound l = true) {p : Nat × α} (hp : p ∈ l) : p.1 < bound := by
  induction l with
  | nil => cases hp
  | cons q l ih =>
    obtain ⟨hq, -, -, htl⟩ := (sparseWf_cons d bound q.1 q.2 l).mp h
    rcases List.mem_cons.mp hp with rfl | hp
    · exact hq
    · exact ih htl hp

/-- No node is listed outside a canonical pool (10_state.md R46). -/
theorem Mmu.node_of_not_inPool {m : Mmu} (hp : Pool.wf m.pool = true) {i : Word} (hi : ¬ i.toNat < nodes) :
    m.node i = Node.free :=
  (sparseGet_mem Node.free m.pool i.toNat).resolve_right fun h => hi (sparseWf_key_lt ((Pool.wf_iff _).mp hp).1 h)

/-! ### FREE and PG_FREE -/

section
variable {m : Mmu} {e : ErrorCodes}

/-- Each node released moves the two counters by one (R464). -/
theorem Mmu.releaseAll_registers (m : Mmu) (xs : List Word) :
    (xs.foldl Mmu.release m).blocksFree = m.blocksFree + BitVec.ofNat 16 xs.length ∧
      (xs.foldl Mmu.release m).blocksAllocated = m.blocksAllocated - BitVec.ofNat 16 xs.length ∧
      (xs.foldl Mmu.release m).rawIndex = m.rawIndex := by
  induction xs generalizing m with
  | nil => simp
  | cons x xs ih =>
    obtain ⟨hfree, hallocated, hraw⟩ := ih (m.release x)
    rw [List.foldl_cons, hfree, hallocated, hraw, List.length_cons, ofNat_succ]
    simp only [Mmu.release, Mmu.setNode_blocksFree, Mmu.setNode_blocksAllocated, Mmu.setNode_rawIndex, and_true]
    exact ⟨by ring, by ring⟩

/-- After FREE the nodes of the chain are free and the others as they were, and the counters have moved by its length. -/
structure Mmu.Released (m t : Mmu) (c : List Word) : Prop where
  freed : ∀ i ∈ c, t.node i = Node.free
  other : ∀ i, i ∉ c → t.node i = m.node i
  blocksFree : t.blocksFree = m.blocksFree + BitVec.ofNat 16 c.length
  blocksAllocated : t.blocksAllocated = m.blocksAllocated - BitVec.ofNat 16 c.length
  rawIndex : t.rawIndex = m.rawIndex

theorem Mmu.freeChain_released (hp : Pool.wf m.pool = true) (h : Word) : m.Released (m.freeChain h) (m.chainOf h) := by
  obtain ⟨hfree, hallocated, hraw⟩ := (m.addFragged (0 - chainDisc (m.chainOf h))).releaseAll_registers (m.chainOf h)
  refine ⟨fun i hi => ?_, fun i hi => ?_, hfree, hallocated, hraw⟩
  · rw [Mmu.node_freeChain]
    split
    · rfl
    · next hc => exact Mmu.node_of_not_inPool hp fun hlt => hc ⟨hi, hlt⟩
  · rw [Mmu.node_freeChain, if_neg fun hc => hi hc.1]

theorem Mmu.free_of_valid (hv : m.validHandle m.arg1 = true) (hm : m.mapped m.arg1 = false) :
    m.free e = ({ m.freeChain m.arg1 with arg1 := noNode }, none) := by
  simp [Mmu.free, hv, hm]

theorem Mmu.pgFree_of_valid (hv : m.validHandle m.arg1 = true) (hm : m.mapped m.arg1 = false)
    (hpaged : (m.node m.arg1).status.getLsbD 1 = true) :
    m.pgFree e = ({ m.freeChain m.arg1 with arg1 := noNode }, none) :=
  if_neg (by simp only [hv, hm, hpaged, Bool.true_eq_false, Bool.false_eq_true, or_self, not_false_eq_true])

end

/-- Settles O59: the refusals are the commands' tests, and each node of the chain is released once for each of its places. -/
theorem freeReleasesChain : Obligations.FreeReleasesChain := by
  intro e m
  refine ⟨fun hv => ⟨if_pos hv, if_pos (.inl hv)⟩, fun hv hm => ⟨?_, if_pos (.inr (.inr hm))⟩,
    fun _ hpaged => if_pos (.inr (.inl hpaged)), fun hp hv hm => ?_⟩
  · exact (if_neg (by rw [hv]; exact Bool.noConfusion)).trans (if_pos hm)
  · obtain ⟨hfreed, hother, hfree, hallocated, hraw⟩ := Mmu.freeChain_released hp m.arg1
    have hrun : m.run e .free = _ := Mmu.free_of_valid hv hm
    refine ⟨?_, fun hpaged => ?_⟩
    · rw [hrun]
      exact ⟨rfl, hfreed, hother, hfree, hallocated, rfl, hraw⟩
    · have hrun : m.run e .pgFree = _ := Mmu.pgFree_of_valid hv hm hpaged
      rw [hrun]
      exact ⟨rfl, hfreed, hother, hfree, hallocated, rfl, hraw⟩

/-! ### The first free node (R462) -/

section
variable {m m' m₀ : Mmu} {f : Word} {t : Byte} {xs : List Word}

theorem firstFreeFrom_some {k i : Nat} (hk : i + k ≤ nodes) (h : firstFreeFrom m k i = some f) {j : Word} (hi : i ≤ j.toNat)
    (hj : j.toNat < f.toNat) : (m.node j).allocated = true := by
  induction k generalizing i with
  | zero => cases h
  | succ k ih =>
    rw [firstFreeFrom] at h
    split at h
    · next ha =>
      rcases Nat.eq_or_lt_of_le hi with rfl | hlt
      · simpa using ha
      · exact ih (by omega) h hlt
    · cases h
      rw [toNat_ofNat_of_lt (by omega)] at hj
      omega

theorem firstFreeFrom_none {k i : Nat} (h : firstFreeFrom m k i = none) {j : Word} (hi : i ≤ j.toNat)
    (hj : j.toNat < i + k) : (m.node j).allocated = true := by
  induction k generalizing i with
  | zero => omega
  | succ k ih =>
    rw [firstFreeFrom] at h
    split at h
    · next ha =>
      rcases Nat.eq_or_lt_of_le hi with rfl | hlt
      · simpa using ha
      · exact ih h hlt (by omega)
    · cases h

/-- `FirstFree` finds the smallest index. -/
theorem Mmu.allocated_below_firstFree (h : m.firstFree = some f) {j : Word} (hj : j.toNat < f.toNat) :
    (m.node j).allocated = true :=
  firstFreeFrom_some (by omega) h (Nat.zero_le _) hj

/-- `FirstFree` finds nothing only in a full pool. -/
theorem Mmu.allocated_of_firstFree_none (h : m.firstFree = none) {j : Word} (hj : j.toNat < nodes) :
    (m.node j).allocated = true :=
  firstFreeFrom_none h (Nat.zero_le _) (by omega)

/-! ### Chains that grow at their end (R467) -/

theorem Mmu.Chain.of_pool_eq {i : Word} (h : m.Chain i xs) (hp : m'.pool = m.pool) : m'.Chain i xs := by
  induction h with
  | nil => exact .nil
  | cons hi _ ih =>
    rw [← Mmu.node_of_pool_eq hp] at ih
    exact .cons hi ih

/-- A chain whose last node gets a successor without one of its own is longer by that. -/
theorem Mmu.Chain.snoc {i last : Word} (h : m.Chain i (xs ++ [last])) (hd : (xs ++ [last]).Nodup) (hf : f ≠ noNode)
    (hnext : ∀ j ∈ xs, (m'.node j).next = (m.node j).next) (hlast : (m'.node last).next = f)
    (hnew : (m'.node f).next = noNode) : m'.Chain i (xs ++ [last, f]) := by
  induction xs generalizing i with
  | nil =>
    cases h with
    | cons hi _ =>
      refine .cons hi ?_
      rw [hlast]
      exact .cons hf (hnew ▸ .nil)
  | cons x xs ih =>
    cases h with
    | cons hi hl =>
      refine .cons hi ?_
      rw [hnext _ List.mem_cons_self]
      exact ih hl (List.nodup_cons.mp hd).2 fun j hj => hnext j (List.mem_cons_of_mem _ hj)

/-! ### BuildChain (R467) -/

theorem withFragd_masked (st : Byte) (f : Bool) : withFragd st f &&& ~~~statusFragd = st &&& ~~~statusFragd := by
  revert st
  cases f <;> decide

theorem templateStatus_masked (t : Byte) : templateStatus t &&& ~~~statusFragd = 0x01 ||| (t &&& 0x16) := by
  revert t
  decide

/-- What `BuildChain` has made of `m₀` when it has taken the nodes `xs`: nodes that were free, in ascending order and with no
free node below them, as one chain under the template `t`. -/
structure Mmu.Built (m₀ : Mmu) (t : Byte) (xs : List Word) (m : Mmu) : Prop where
  ascending : xs.Pairwise fun i j => i.toNat < j.toNat
  inPool : ∀ i ∈ xs, i.toNat < nodes
  wasFree : ∀ i ∈ xs, (m₀.node i).allocated = false
  other : ∀ i, i ∉ xs → m.node i = m₀.node i
  root : ∀ i ∈ xs, (m.node i).root = xs.headD noNode
  status : ∀ i ∈ xs, (m.node i).status &&& ~~~statusFragd = 0x01 ||| (t &&& 0x16)
  chain : m.Chain (xs.headD noNode) xs
  below : ∀ j ∈ xs, ∀ i : Word, i.toNat ≤ j.toNat → (m.node i).allocated = true
  blocksFree : m.blocksFree = m₀.blocksFree - BitVec.ofNat 16 xs.length
  blocksAllocated : m.blocksAllocated = m₀.blocksAllocated + BitVec.ofNat 16 xs.length

theorem Mmu.built_nil (m : Mmu) (t : Byte) : m.Built t [] m where
  ascending := .nil
  inPool _ h := absurd h List.not_mem_nil
  wasFree _ h := absurd h List.not_mem_nil
  other _ _ := rfl
  root _ h := absurd h List.not_mem_nil
  status _ h := absurd h List.not_mem_nil
  chain := .nil
  below _ h := absurd h List.not_mem_nil
  blocksFree := by simp
  blocksAllocated := by simp

theorem Mmu.buildNode_blocksFree (m : Mmu) (t : Byte) (rootn last f : Word) :
    (m.buildNode t rootn last f).blocksFree = m.blocksFree - 1 := by
  by_cases hl : last = noNode
  · simp [Mmu.buildNode, Mmu.linkAfter, Mmu.take, Mmu.setStatus, hl]
  · by_cases hd : discontinuous last f = true <;>
      simp [Mmu.buildNode, Mmu.linkAfter, Mmu.take, Mmu.setStatus, Mmu.setNext, Mmu.addFragged, hl, hd]

/-- Every node that is allocated stays allocated when a new one is joined to the chain. -/
theorem Mmu.buildNode_allocated (rootn : Word) {last : Word} (hlf : last ≠ f) (hfp : f.toNat < nodes)
    (hlp : last ≠ noNode → last.toNat < nodes) {i : Word} (hi : (m.node i).allocated = true ∨ i = f) :
    ((m.buildNode t rootn last f).node i).allocated = true := by
  have hst : (if i = f then templateStatus t else (m.node i).status).getLsbD 0 = true := by
    split
    · exact templateStatus_allocated t
    · next hif => exact hi.resolve_right hif
  rw [m.node_buildNode t rootn hlf hfp hlp, Node.allocated]
  dsimp only
  split
  · rw [withFragd_allocated]
    exact hst
  · exact hst

/-- A round of `BuildChain` on the free node `f`, where the nodes `xs` are built (R467). -/
def Mmu.buildNext (m : Mmu) (t : Byte) (xs : List Word) (f : Word) : Mmu :=
  m.buildNode t ((xs ++ [f]).headD noNode) (xs.getLastD noNode) f

namespace Mmu.Built

theorem nodup (h : m₀.Built t xs m) : xs.Nodup := h.ascending.imp fun hlt heq => absurd (heq ▸ hlt) (lt_irrefl _)

theorem ne_noNode (h : m₀.Built t xs m) {i : Word} (hi : i ∈ xs) : i ≠ noNode := by
  rintro rfl
  exact noNode_not_inPool (h.inPool _ hi)

/-- There is a next node to take where the pool holds more nodes than are allocated. -/
theorem exists_firstFree (h : m₀.Built t xs m) (hp : Pool.wf m₀.pool = true)
    (hroom : m₀.allocatedCount + xs.length < nodes) : ∃ f, m.firstFree = some f := by
  refine Option.ne_none_iff_exists'.mp fun hnone => ?_
  have hcount := sparse_count (fun _ n => n.allocated) ((Pool.wf_iff _).mp hp).1 fun _ => Node.free_fields.1
  have hsub : Finset.range nodes ⊆ ((Finset.range nodes).filter fun k => (sparseGet Node.free m₀.pool k).allocated = true) ∪
      (xs.map BitVec.toNat).toFinset := by
    intro k hk
    have hlt := Finset.mem_range.mp hk
    have hk' : (BitVec.ofNat 16 k).toNat = k := toNat_ofNat_of_lt hlt
    by_cases hx : BitVec.ofNat 16 k ∈ xs
    · exact Finset.mem_union_right _ (List.mem_toFinset.mpr (List.mem_map.mpr ⟨_, hx, hk'⟩))
    · have halloc : (m.node (BitVec.ofNat 16 k)).allocated = true := Mmu.allocated_of_firstFree_none hnone (by rwa [hk'])
      rw [h.other _ hx, Mmu.node, hk'] at halloc
      exact Finset.mem_union_left _ (Finset.mem_filter.mpr ⟨hk, halloc⟩)
  have hcard := (Finset.card_le_card hsub).trans (Finset.card_union_le _ _)
  have hlist := (xs.map BitVec.toNat).toFinset_card_le
  rw [Finset.card_range, ← hcount] at hcard
  rw [List.length_map] at hlist
  have : nodes ≤ m₀.allocatedCount + xs.length := hcard.trans (Nat.add_le_add_left hlist _)
  omega

/-- The next node lies above those taken, and was free. -/
theorem firstFree_above (h : m₀.Built t xs m) (hf : m.firstFree = some f) :
    (∀ j ∈ xs, j.toNat < f.toNat) ∧ f ∉ xs ∧ (m₀.node f).allocated = false := by
  have hfree := (Mmu.firstFree_spec hf).1
  have habove : ∀ j ∈ xs, j.toNat < f.toNat := fun j hj => by
    by_contra hle
    rw [h.below j hj f (not_lt.mp hle)] at hfree
    cases hfree
  have hnot : f ∉ xs := fun hm => lt_irrefl _ (habove f hm)
  exact ⟨habove, hnot, h.other f hnot ▸ hfree⟩

theorem last_mem (hl : xs.getLastD noNode ≠ noNode) : xs.getLastD noNode ∈ xs := by
  cases xs with
  | nil => exact absurd rfl hl
  | cons x xs =>
    rw [List.getLastD_cons]
    exact List.getLastD_mem_cons

/-- The next node is not the last one taken, which is a node of the pool where there is one. -/
theorem last_spec (h : m₀.Built t xs m) (hf : m.firstFree = some f) :
    xs.getLastD noNode ≠ f ∧ (xs.getLastD noNode ≠ noNode → (xs.getLastD noNode).toNat < nodes) := by
  obtain ⟨-, hfx, -⟩ := h.firstFree_above hf
  refine ⟨fun heq => hfx ?_, fun hne => h.inPool _ (last_mem hne)⟩
  have hfn : f ≠ noNode := fun hn => noNode_not_inPool (hn ▸ (Mmu.firstFree_spec hf).2)
  have hmem := last_mem (heq ▸ hfn)
  rwa [heq] at hmem

theorem next_other (h : m₀.Built t xs m) (hf : m.firstFree = some f) {i : Word} (hi : i ∉ xs) (hif : i ≠ f) :
    (m.buildNext t xs f).node i = m.node i := by
  obtain ⟨hlf, hlp⟩ := h.last_spec hf
  have hil : ¬ (i = xs.getLastD noNode ∧ xs.getLastD noNode ≠ noNode) := fun ⟨heq, hne⟩ => hi (heq ▸ last_mem hne)
  have hst : ¬ ((i = xs.getLastD noNode ∨ i = f) ∧ xs.getLastD noNode ≠ noNode ∧
      discontinuous (xs.getLastD noNode) f = true) := fun ⟨heq, hne, _⟩ => hil ⟨heq.resolve_right hif, hne⟩
  rw [Mmu.buildNext, m.node_buildNode t _ hlf (Mmu.firstFree_spec hf).2 hlp]
  simp only [if_neg hif, if_neg hil, if_neg hst]

/-- The new node gets the head as its root, or is the head. -/
theorem next_root (h : m₀.Built t xs m) (hf : m.firstFree = some f) {i : Word} (hi : i ∈ xs ∧ i ≠ f ∨ i = f) :
    ((m.buildNext t xs f).node i).root = (xs ++ [f]).headD noNode := by
  obtain ⟨hlf, hlp⟩ := h.last_spec hf
  rw [Mmu.buildNext, m.node_buildNode t _ hlf (Mmu.firstFree_spec hf).2 hlp]
  obtain ⟨hi, hif⟩ | rfl := hi
  · obtain ⟨x, xs, rfl⟩ := List.exists_cons_of_ne_nil (List.ne_nil_of_mem hi)
    simp only [if_neg hif]
    exact h.root i hi
  · simp only [if_true]

theorem next_status (h : m₀.Built t xs m) (hf : m.firstFree = some f) {i : Word} (hi : i ∈ xs ∧ i ≠ f ∨ i = f) :
    ((m.buildNext t xs f).node i).status &&& ~~~statusFragd = 0x01 ||| (t &&& 0x16) := by
  obtain ⟨hlf, hlp⟩ := h.last_spec hf
  have hmasked : (if i = f then templateStatus t else (m.node i).status) &&& ~~~statusFragd = 0x01 ||| (t &&& 0x16) := by
    obtain ⟨hi, hif⟩ | rfl := hi
    · rw [if_neg hif, h.status i hi]
    · rw [if_pos rfl, templateStatus_masked]
  rw [Mmu.buildNext, m.node_buildNode t _ hlf (Mmu.firstFree_spec hf).2 hlp]
  dsimp only
  split
  · rw [withFragd_masked, hmasked]
  · exact hmasked

/-- The new node follows the last one, or begins the chain. -/
theorem next_chain (h : m₀.Built t xs m) (hf : m.firstFree = some f) :
    (m.buildNext t xs f).Chain ((xs ++ [f]).headD noNode) (xs ++ [f]) := by
  obtain ⟨hlf, hlp⟩ := h.last_spec hf
  obtain ⟨-, hfx, -⟩ := h.firstFree_above hf
  have hfp := (Mmu.firstFree_spec hf).2
  have hfn : f ≠ noNode := by rintro rfl; exact noNode_not_inPool hfp
  have hnext (i : Word) : ((m.buildNext t xs f).node i).next = if i = xs.getLastD noNode ∧ xs.getLastD noNode ≠ noNode then f
      else if i = f then noNode else (m.node i).next := by
    rw [Mmu.buildNext, m.node_buildNode t _ hlf hfp hlp]
  have hnew : ((m.buildNext t xs f).node f).next = noNode := by
    rw [hnext, if_neg fun hc => hlf hc.1.symm, if_pos rfl]
  obtain rfl | ⟨ys, last, rfl⟩ := xs.eq_nil_or_concat'
  · refine Mmu.Chain.cons (i := f) hfn ?_
    rw [hnew]
    exact .nil
  · have hl : (ys ++ [last]).getLastD noNode = last := by simp
    have hhead : (ys ++ [last] ++ [f]).headD noNode = (ys ++ [last]).headD noNode := by cases ys <;> rfl
    rw [hhead, List.append_assoc]
    refine h.chain.snoc h.nodup hfn (fun j hj => ?_) ?_ hnew
    · have hlt : j.toNat < last.toNat := (List.pairwise_append.mp h.ascending).2.2 j hj last (List.mem_singleton.mpr rfl)
      have hjl : j ≠ last := fun heq => absurd (heq ▸ hlt) (lt_irrefl _)
      have hjf : j ≠ f := fun heq => hfx (heq ▸ List.mem_append_left _ hj)
      simp [hnext, hjl, hjf]
    · simp [hnext, h.ne_noNode (List.mem_append_right _ (List.mem_singleton.mpr rfl))]

/-- One round of `BuildChain`. -/
theorem snoc (h : m₀.Built t xs m) (hf : m.firstFree = some f) : m₀.Built t (xs ++ [f]) (m.buildNext t xs f) := by
  obtain ⟨-, hfp⟩ := Mmu.firstFree_spec hf
  obtain ⟨habove, hfx, hwas⟩ := h.firstFree_above hf
  obtain ⟨hlf, hlp⟩ := h.last_spec hf
  have hfn : f ≠ noNode := by rintro rfl; exact noNode_not_inPool hfp
  have hcases : ∀ i ∈ xs ++ [f], i ∈ xs ∧ i ≠ f ∨ i = f := fun i hi => by
    rcases List.mem_append.mp hi with hi | hi
    · exact .inl ⟨hi, fun heq => hfx (heq ▸ hi)⟩
    · exact .inr (List.mem_singleton.mp hi)
  constructor
  case ascending =>
    exact List.pairwise_append.mpr ⟨h.ascending, List.pairwise_singleton _ _, fun i hi j hj => by
      rw [List.mem_singleton.mp hj]
      exact habove i hi⟩
  case inPool =>
    intro i hi
    obtain ⟨hi, -⟩ | rfl := hcases i hi
    · exact h.inPool i hi
    · exact hfp
  case wasFree =>
    intro i hi
    obtain ⟨hi, -⟩ | rfl := hcases i hi
    · exact h.wasFree i hi
    · exact hwas
  case other =>
    intro i hi
    have hix : i ∉ xs := fun hx => hi (List.mem_append_left _ hx)
    have hif : i ≠ f := fun heq => hi (List.mem_append_right _ (List.mem_singleton.mpr heq))
    exact (h.next_other hf hix hif).trans (h.other i hix)
  case root => exact fun i hi => h.next_root hf (hcases i hi)
  case status => exact fun i hi => h.next_status hf (hcases i hi)
  case chain => exact h.next_chain hf
  case below =>
    intro j hj i hij
    refine Mmu.buildNode_allocated _ hlf hfp hlp ?_
    obtain ⟨hj, -⟩ | rfl := hcases j hj
    · exact .inl (h.below j hj i hij)
    · rcases Nat.lt_or_eq_of_le hij with hlt | heq
      · exact .inl (Mmu.allocated_below_firstFree hf hlt)
      · exact .inr (BitVec.eq_of_toNat_eq heq)
  case blocksFree =>
    rw [Mmu.buildNext, Mmu.buildNode_blocksFree, h.blocksFree, List.length_append, List.length_singleton, ofNat_succ]
    ring
  case blocksAllocated =>
    rw [Mmu.buildNext, (m.buildNode_counters t _ _ hfn).1, h.blocksAllocated, List.length_append, List.length_singleton,
      ofNat_succ]
    ring

/-- `BuildChain` takes as many nodes as it is asked for, where they are free. -/
theorem buildChainFrom (h : m₀.Built t xs m) (hp : Pool.wf m₀.pool = true) (k : Nat)
    (hroom : m₀.allocatedCount + xs.length + k ≤ nodes) :
    ∃ ys, ys.length = xs.length + k ∧
      (Machine.buildChainFrom t k (xs.headD noNode) (xs.getLastD noNode) m).1 = (ys.headD noNode, true) ∧
      m₀.Built t ys (Machine.buildChainFrom t k (xs.headD noNode) (xs.getLastD noNode) m).2 := by
  induction k generalizing xs m with
  | zero => exact ⟨xs, rfl, rfl, h⟩
  | succ k ih =>
    obtain ⟨f, hf⟩ := h.exists_firstFree hp (by omega)
    have hhead : (if xs.headD noNode = noNode then f else xs.headD noNode) = (xs ++ [f]).headD noNode := by
      cases xs with
      | nil => rfl
      | cons x xs => exact if_neg (h.ne_noNode List.mem_cons_self)
    obtain ⟨ys, hlen, hres, hbuilt⟩ := ih (h.snoc hf) (by rw [List.length_append, List.length_singleton]; omega)
    have hlast : (xs ++ [f]).getLastD noNode = f := by simp
    rw [hlast] at hres hbuilt
    rw [buildChainFrom_succ, hf]
    dsimp only
    rw [hhead]
    refine ⟨ys, ?_, hres, hbuilt⟩
    rw [hlen, List.length_append, List.length_singleton]
    omega

/-- What is built is a chain behind its head, whatever the other registers hold. -/
theorem chainOf (h : m₀.Built t xs m) (hp : m'.pool = m.pool) : m'.chainOf (xs.headD noNode) = xs := by
  have hlen := length_le_nodes h.nodup h.inPool
  exact (h.chain.of_pool_eq hp).chainFrom_eq hlen

theorem validHandle (h : m₀.Built t xs m) (hp : m'.pool = m.pool) (hx : xs.headD noNode ∈ xs) :
    m'.validHandle (xs.headD noNode) = true := by
  simp only [Mmu.validHandle, Mmu.node_of_pool_eq hp, h.inPool _ hx, h.below _ hx _ le_rfl, h.root _ hx, decide_true,
    beq_self_eq_true, Bool.and_true]

end Mmu.Built

/-! ### ALLOC (R473) -/

theorem Mmu.buildChain_built (hp : Pool.wf m.pool = true) {count : Nat} (hroom : m.allocatedCount + count ≤ nodes) :
    ∃ ys : List Word, ys.length = count ∧ (m.buildChain count t).1 = (ys.headD noNode, true) ∧
      m.Built t ys (m.buildChain count t).2 := by
  obtain ⟨ys, hlen, hres, hbuilt⟩ := (m.built_nil t).buildChainFrom hp count hroom
  exact ⟨ys, hlen.trans (Nat.zero_add _), hres, hbuilt⟩

/-- ALLOC of a good count ends where `BuildChain` does. -/
theorem Mmu.alloc_of_buildChain {e : ErrorCodes} {h : Word} (hlo : 1 ≤ m.arg1.toNat) (hhi : m.arg1.toNat ≤ 256)
    (hr : (m.buildChain m.arg1.toNat (loByte m.arg2)).1 = (h, true)) (hh : h ≠ noNode) :
    m.alloc e = ({ (m.buildChain m.arg1.toNat (loByte m.arg2)).2 with arg1 := h, rawIndex := h }, none) := by
  have hcount : ¬ (m.arg1.toNat < 1 ∨ 256 < m.arg1.toNat) := by omega
  simp only [Mmu.alloc, if_neg hcount, hr, if_neg hh, if_true]

end

/-- Settles O58: the nodes that `BuildChain` has taken are a chain of free nodes, by induction on the count. -/
theorem allocBuildsChain : Obligations.AllocBuildsChain := by
  intro e m hp hlo hhi hroom
  obtain ⟨ys, hys, hres, hbuilt⟩ := m.buildChain_built (t := loByte m.arg2) hp hroom
  have hhead : ys.headD noNode ∈ ys := by
    cases ys with
    | nil => rw [← hys] at hlo; cases hlo
    | cons y ys => exact List.mem_cons_self
  have hword : BitVec.ofNat 16 ys.length = m.arg1 := by rw [hys, BitVec.ofNat_toNat, BitVec.setWidth_eq]
  have hrun : m.run e .alloc = _ := Mmu.alloc_of_buildChain hlo hhi hres (hbuilt.ne_noNode hhead)
  rw [hrun]
  generalize (m.buildChain m.arg1.toNat (loByte m.arg2)).2 = t at hbuilt
  have hchain := hbuilt.chainOf (m' := { t with arg1 := ys.headD noNode, rawIndex := ys.headD noNode }) rfl
  dsimp only
  rw [hchain]
  refine ⟨rfl, hbuilt.validHandle rfl hhead, rfl, hys, hbuilt.ascending,
    fun i hi => ⟨hbuilt.wasFree i hi, hbuilt.root i hi, hbuilt.status i hi⟩, fun i hi => ?_, ?_, ?_⟩
  · exact hbuilt.other i fun hx => by rw [hbuilt.wasFree i hx] at hi; cases hi
  · rw [← hword]
    exact hbuilt.blocksFree
  · rw [← hword]
    exact hbuilt.blocksAllocated

end Sys2Proof.Machine

/-! PROOFS. The tick outside interrupt entry (60_exceptions.md R520, R524, R537 to R540): halted and counting-down ticks,
the idle wait, and the instruction or the rejected bytes that an evaluation fetches. -/

namespace Sys2Proof.Machine

/-! ### Halted, counting down, evaluating -/

theorem step_of_halted {s : State} (hcfg : s.cfg.wf = true) (hfault : s.fault ≠ none) : step s = .next s := by
  obtain ⟨hbus, htables⟩ := Bool.and_eq_true_iff.mp hcfg
  simp [step, tick, hbus, htables, State.halted, Option.isSome_iff_ne_none, hfault]

theorem step_of_busy {s : State} (hcfg : s.cfg.wf = true) (hfault : s.fault = none) (hbusy : 0 < s.busy) :
    step s = .next { s with busy := s.busy - 1 } := by
  obtain ⟨hbus, htables⟩ := Bool.and_eq_true_iff.mp hcfg
  simp [step, tick, hbus, htables, State.halted, hfault, hbusy]

/-- Settles O8, from the order of the tests in `tick`. -/
theorem haltedAndIdleTicks : Obligations.HaltedAndIdleTicks :=
  ⟨fun _ hcfg hfault => step_of_halted hcfg hfault, fun _ hcfg hfault hbusy => step_of_busy hcfg hfault hbusy⟩

/-! ### Fetching the bytes at PC (30_encoding.md R130, R132) -/

/-- The reader asks for exactly these bytes and then has its answer. -/
inductive Reader.Consumes : Reader → List Byte → Except Reject Instr → Prop
  | done (r : Except Reject Instr) : Reader.Consumes (.done r) [] r
  | more {k : Byte → Reader} {v : Byte} {vs : List Byte} {r : Except Reject Instr} :
      Reader.Consumes (k v) vs r → Reader.Consumes (.more k) (v :: vs) r

/-- An instruction that leaves no byte over has taken them all. -/
theorem Reader.consumes_of_ok {r : Reader} {bs : List Byte} {i : Instr} (h : r.decodeList bs = .ok (i, [])) :
    Reader.Consumes r bs (.ok i) := by
  induction bs generalizing r with
  | nil =>
    match r with
    | .done (.ok j) =>
      cases h
      exact .done _
    | .done (.error _) => cases h
    | .more _ => cases h
  | cons v vs ih =>
    match r with
    | .done (.ok _) => cases h
    | .done (.error _) => cases h
    | .more k => exact .more (ih h)

/-- A rejection that no shorter list gives has taken every byte. -/
theorem Reader.consumes_of_rejected {r : Reader} {bs : List Byte} {e : Reject} (h : r.decodeList bs = .error (.rejected e))
    (hmin : ∀ n < bs.length, r.decodeList (bs.take n) = .error .truncated) : Reader.Consumes r bs (.error e) := by
  induction bs generalizing r with
  | nil =>
    match r with
    | .done (.ok _) => cases h
    | .done (.error f) =>
      cases h
      exact .done _
    | .more _ => cases h
  | cons v vs ih =>
    match r with
    | .done (.ok _) => cases h
    | .done (.error _) => cases hmin 0 (Nat.succ_pos _)
    | .more k => exact .more (ih h fun n hn => hmin (n + 1) (Nat.succ_lt_succ hn))

theorem fetch8_of_peek {s : State} {v : Byte} (h : s.peek s.pc = some v) : fetch8 s = (v, { s with pc := s.pc + 1 }) := by
  rw [fetch8, busRead_of_peek h]

/-- Where the bytes that the reader asks for lie at PC, they are fetched, and nothing but PC changes. -/
theorem fetchWith_of_consumes {r : Reader} {bs : List Byte} {a : Except Reject Instr} (h : Reader.Consumes r bs a) {s : State}
    (hb : s.bytesAt s.pc bs = true) : fetchWith r s = (a, { s with pc := s.pc + BitVec.ofNat 16 bs.length }) := by
  induction h generalizing s with
  | done r => simp [fetchWith]
  | @more k v vs a _ ih =>
    obtain ⟨hv, hvs⟩ := State.bytesAt_cons.mp hb
    have hrest : State.bytesAt { s with pc := s.pc + 1 } (s.pc + 1) vs = true :=
      (State.bytesAt_congr (jump_sameMemory s (s.pc + 1)).peek_eq _ _).trans hvs
    have hnext : s.pc + 1 + BitVec.ofNat 16 vs.length = s.pc + BitVec.ofNat 16 (v :: vs).length := by
      rw [List.length_cons, ofNat_succ]
      ring
    rw [fetchWith, fetch8_of_peek hv, ih hrest, hnext]

/-! ### Evaluations that enter no interrupt (60_exceptions.md R528, R537 to R540) -/

theorem acceptInterrupt_of_noInterrupt {s : State} (h : s.NoInterrupt) : acceptInterrupt s.nmiEdge s = none := by
  obtain ⟨hnmi, hfirq, hirq⟩ := h
  have hnmi : ¬ (s.nmiEdge = true ∧ s.nmiDisabled = false) := by rcases hnmi with h | h <;> simp [h]
  have hfirq : ¬ (s.firqN = false ∧ s.cc.f = false) := by rcases hfirq with h | h <;> simp [h]
  have hirq : ¬ (s.irqN = false ∧ s.cc.i = false) := by rcases hirq with h | h <;> simp [h]
  rw [acceptInterrupt, if_neg hnmi, if_neg hfirq, if_neg hirq]

/-- An evaluation that ends or meets no wait, and enters no interrupt, executes an instruction. -/
theorem evaluate_of_noInterrupt {s : State} (hwait : s.wait = .normal ∨ s.anyLine = true) (h : s.NoInterrupt) :
    evaluate s = executeOne s.awake := by
  have hidle : ¬ (s.wait ≠ .normal ∧ s.anyLine = false) := by rcases hwait with h | h <;> simp [h]
  have haccept : acceptInterrupt (s.nmiHist && !s.nmiN) { s with nmiHist := s.nmiN, wait := .normal } = none :=
    acceptInterrupt_of_noInterrupt h
  have hservice : serviceInterrupts s = (false, s.awake) := by
    simp only [serviceInterrupts, if_neg hidle, haccept]
    rfl
  have hawake : ¬ s.awake.wait ≠ .normal := fun h => h rfl
  simp only [evaluate, hservice, Bool.false_eq_true, if_false, if_neg hawake]

/-- A waiting machine waits on while every line is high (R537). -/
theorem evaluate_of_idle {s : State} (hwait : s.wait ≠ .normal) (hlines : s.anyLine = false) :
    evaluate s = .next { s with nmiHist := s.nmiN } := by
  have hservice : serviceInterrupts s = (false, { s with nmiHist := s.nmiN }) := by
    simp only [serviceInterrupts, if_pos (And.intro hwait hlines)]
  simp [evaluate, hservice, hwait]

theorem State.awake_of_normal {s : State} (h : s.wait = .normal) : s.awake = { s with nmiHist := s.nmiN } := by
  rw [State.awake, ← h]

theorem State.nmiN_of_not_anyLine {s : State} (h : s.anyLine = false) : s.nmiN = true := by
  rw [State.anyLine, Bool.or_eq_false_iff, Bool.or_eq_false_iff] at h
  simpa using h.1.1

section
variable {s : State} {bs : List Byte}

theorem fetch_of_consumes {a : Except Reject Instr} (h : Reader.Consumes decoder bs a) (hb : s.bytesAt s.pc bs = true) :
    fetch s.awake = (a, { s.awake with pc := s.pc + BitVec.ofNat 16 bs.length }) :=
  fetchWith_of_consumes h ((State.bytesAt_congr (s := s) (t := s.awake) (fun _ => rfl) s.pc bs).trans hb)

/-- The instruction at PC runs in the same tick, PC past its bytes (R520, R540). -/
theorem step_of_decode {i : Instr} (hs : s.Evaluates) (hwait : s.wait = .normal ∨ s.anyLine = true) (hno : s.NoInterrupt)
    (hd : decode bs = .ok (i, [])) (hb : s.bytesAt s.pc bs = true) :
    step s = exec i { s.awake with pc := s.pc + BitVec.ofNat 16 bs.length, busy := i.cycles } := by
  rw [hs.step_eq, evaluate_of_noInterrupt hwait hno, executeOne, fetch_of_consumes (Reader.consumes_of_ok hd) hb]

end

theorem raiseReject_eq (r : Reject) (start : Addr) (s : State) :
    raiseReject r start s = { s with busy := 0, fault := some (Reject.record r start) } := by
  cases r <;> rfl

/-- Settles O5: the fetch takes the bytes at PC and `exec` runs what they decode to. -/
theorem stepRunsInstruction : Obligations.StepRunsInstruction := by
  intro s i bs hs hwait hno hd hb
  refine ⟨i.cycles, ?_⟩
  rw [step_of_decode hs (.inl hwait) hno hd hb, State.awake_of_normal hwait]

/-- Settles O6: the fetch ends at the last of the rejected bytes, and only the fault is recorded. -/
theorem rejectedBytesFault : Obligations.RejectedBytesFault := by
  intro s bs r hs hwait hno hd hmin hb
  have hfetch := fetch_of_consumes (Reader.consumes_of_rejected hd hmin) hb
  rw [hs.step_eq, evaluate_of_noInterrupt (.inl hwait) hno, executeOne, hfetch, State.awake_of_normal hwait]
  dsimp only
  rw [raiseReject_eq]
  exact finish_eq_next hs.defrag

/-- Settles O46: with every line high the wait goes on; a low line ends it in the tick that runs the instruction. -/
theorem waitingSteps : Obligations.WaitingSteps := by
  refine ⟨fun s hs hwait hlines => ?_, fun s i bs hs _ hlines hno hd hb => ⟨i.cycles, ?_⟩⟩
  · rw [hs.step_eq, evaluate_of_idle hwait hlines, State.nmiN_of_not_anyLine hlines]
  · rw [step_of_decode hs (.inr hlines) hno hd hb]
    rfl

end Sys2Proof.Machine

/-! PROOFS. Interrupt entry (60_exceptions.md R528 to R536, R539): the frame of an interrupt as bytes below S, an entry as one
equation, and the return from it (R541, R542). -/

namespace Sys2Proof.Machine

/-! ### The bus does not see the latches that an evaluation resets -/

@[simp] theorem State.awake_cfg (s : State) : s.awake.cfg = s.cfg := rfl
@[simp] theorem State.awake_mmu (s : State) : s.awake.mmu = s.mmu := rfl

theorem busWrite_awake (s : State) (a : Addr) (v : Byte) : busWrite s.awake a v = (busWrite s a v).awake := by
  have hlocate : s.awake.locate a = s.locate a := rfl
  simp only [busWrite, hlocate, mmuRegWrite, bankWrite, State.awake_cfg, State.awake_mmu]
  split
  case h_4 =>
    split
    · rfl
    · split <;> rfl
  case h_5 k _ _ =>
    split
    · cases k <;> rfl
    · rw [apply_ite State.awake]
      rfl
    · rfl
  all_goals rfl

theorem busRead_awake (s : State) (a : Addr) : busRead s.awake a = ((busRead s a).1, (busRead s a).2.awake) := by
  have hlocate : s.awake.locate a = s.locate a := rfl
  simp only [busRead, hlocate, mmuRegRead, bankRead, State.awake_cfg, State.awake_mmu]
  split
  case h_4 =>
    split
    · rfl
    · split <;> rfl
  case h_5 k _ _ =>
    split
    · cases k <;> rfl
    · rfl
    · rfl
  all_goals rfl

theorem push8_awake (k : Stack) (v : Byte) (s : State) : push8 k v s.awake = (push8 k v s).awake := by
  have hwrite := busWrite_awake (s.setStackPtr k (s.stackPtr k - 1)) (s.stackPtr k - 1) v
  cases k <;> exact hwrite

theorem pushBytes_awake (k : Stack) (bs : List Byte) (s : State) : pushBytes k bs s.awake = (pushBytes k bs s).awake := by
  induction bs generalizing s with
  | nil => rfl
  | cons v vs ih => rw [pushBytes_cons, push8_awake, ih, pushBytes_cons]

theorem jumpVector_awake (v : Vector) (s : State) : jumpVector v s.awake = (jumpVector v s).awake := by
  simp only [jumpVector, read16, busRead_awake]
  rfl

/-! ### The frame of an interrupt (R533 to R536) -/

section
variable (k : Interrupt) (s : State)

/-- The frame is E, written first, and the bytes below S. -/
theorem pushFrame_eq_pushBytes : pushFrame k s = pushBytes .s (s.interruptFrame k) (s.setE (decide (k ≠ .firq))) := by
  cases k
  case firq => exact pushItems_eq_pushBytes .s [.pc, .cc] (s.setE false)
  all_goals exact pushItems_eq_pushBytes .s pushOrder (s.setE true)

theorem pushFrame_awake : pushFrame k s.awake = (pushFrame k s).awake := by
  have hframe : s.awake.interruptFrame k = s.interruptFrame k := by cases k <;> rfl
  rw [pushFrame_eq_pushBytes, pushFrame_eq_pushBytes, hframe, ← pushBytes_awake]
  rfl

theorem length_interruptFrame : (s.interruptFrame k).length = if k = .firq then 3 else 12 := by
  cases k <;> rfl

theorem pushFrame_sp : (pushFrame k s).sp = s.sp - BitVec.ofNat 16 (s.interruptFrame k).length := by
  cases k
  case firq => exact pushItems_stackPtr .s [.pc, .cc] (s.setE false)
  all_goals exact pushEntire_sp s

theorem pushFrame_cc : (pushFrame k s).cc = { s.cc with e := decide (k ≠ .firq) } := by
  cases k
  case firq => exact pushItems_cc .s [.pc, .cc] (s.setE false)
  all_goals exact pushEntire_cc s

variable {k s}

theorem pushFrame_sameReg {q : Reg} (hs : q ≠ .s) (hcc : q ≠ .cc) : s.SameReg q (pushFrame k s) := by
  cases k
  case firq => exact (setE_sameReg hcc s false).trans (pushItems_sameReg (k := .s) hs _ _)
  all_goals exact pushEntire_sameReg hs hcc s

theorem pushFrame_pushedBelow (hram : s.ramBelow s.sp (s.interruptFrame k).length = true) :
    PushedBelow s (pushFrame k s) s.sp (s.interruptFrame k) := by
  have hlen : (s.interruptFrame k).length ≤ 65536 := by
    rw [length_interruptFrame]
    split <;> decide
  rw [← ramBelow_congr (s.setE_cfg (decide (k ≠ .firq)))] at hram
  rw [pushFrame_eq_pushBytes]
  exact (pushBytes_pushedBelow (k := .s) (s := s.setE (decide (k ≠ .firq))) hlen hram).of_sameMemory
    (setE_sameMemory s _) (.refl _)

end

/-! ### The end of an entry (R528) -/

theorem endEntry_sameReg {q : Reg} (hcc : q ≠ .cc) (s : State) (f : CC) (n : Nat) :
    s.SameReg q { s.awake with cc := f, busy := n } := by
  cases q
  case cc => exact absurd rfl hcc
  all_goals rfl

theorem endEntry_sameMemory (s : State) (f : CC) (n : Nat) : s.SameMemory { s.awake with cc := f, busy := n } :=
  ⟨rfl, rfl, rfl, rfl, rfl, rfl⟩

/-- The state an entry leaves, once the frame is on the stack: PC from the vector, F and I set, no wait. -/
def State.entered (s : State) (k : Interrupt) (n : Nat) : State :=
  { (jumpVector k.vector s).awake with cc := { s.cc with f := true, i := true }, busy := n }

theorem enterInterrupt_awake (k : Interrupt) (pre : Bool) (s : State) :
    enterInterrupt k pre s.awake = (if pre then s else pushFrame k s).entered k (if pre then 7 else k.cycles) := by
  have hframed : (if pre then s.awake else pushFrame k s.awake) = (if pre then s else pushFrame k s).awake := by
    rw [pushFrame_awake]
    exact (apply_ite State.awake ..).symm
  rw [enterInterrupt, hframed, State.maskInterrupts, jumpVector_withCC, jumpVector_awake]
  rfl

section
variable (s : State) (k : Interrupt) (n : Nat)

@[simp] theorem State.entered_sp : (s.entered k n).sp = s.sp := jumpVector_sp _ _
@[simp] theorem State.entered_pc : (s.entered k n).pc = (read16 s k.vector.addr).1 := rfl
@[simp] theorem State.entered_cc : (s.entered k n).cc = { s.cc with f := true, i := true } := rfl
@[simp] theorem State.entered_wait : (s.entered k n).wait = .normal := rfl
@[simp] theorem State.entered_nmiHist : (s.entered k n).nmiHist = s.nmiN := jumpVector_nmiN _ _
@[simp] theorem State.entered_defragIssued : (s.entered k n).defragIssued = s.defragIssued := jumpVector_defragIssued _ _

variable {s k n}

/-- The vector is read, and nothing is written. -/
theorem State.entered_accesses {W : Addr → Prop} : s.Accesses W (s.entered k n) :=
  (jumpVector_accesses k.vector s).andThen (endEntry_sameMemory _ _ n)

theorem State.entered_sameReg {q : Reg} (hpc : q ≠ .pc) (hcc : q ≠ .cc) : s.SameReg q (s.entered k n) :=
  (jumpVector_sameReg hpc k.vector s).trans (endEntry_sameReg hcc _ _ n)

theorem State.entered_of_bytesAt {hi lo : Byte} (h : s.bytesAt k.vector.addr [hi, lo] = true) :
    (s.entered k n).pc = joinBytes hi lo ∧ s.SameMemory (s.entered k n) := by
  rw [State.entered, jumpVector_of_bytesAt h]
  exact ⟨rfl, rfl, rfl, rfl, rfl, rfl, rfl⟩

end

section
variable {s : State} {k : Interrupt}

/-- An entry with its frame, where no byte of the frame issues DEFRAG. -/
theorem step_enters (hs : s.Evaluates) (hk : s.accepts k = true) (hpush : s.wait ≠ .cwai ∨ s.cfg.cwaiEntryRestacks = true)
    (hclear : s.pushesClear s.sp (s.interruptFrame k) = true) : step s = .next ((pushFrame k s).entered k k.cycles) := by
  have hpre : (s.wait == .cwai && !s.cfg.cwaiEntryRestacks) = false := by
    rcases hpush with hwait | hrestacks
    · simp [hwait]
    · simp [hrestacks]
  have hissued : (pushFrame k s).defragIssued = false := by
    rw [pushFrame_defragIssued, hs.defrag, hclear]
    rfl
  rw [hs.step_eq, evaluate_of_accepts hk, hpre, enterInterrupt_awake]
  exact finish_eq_next ((State.entered_defragIssued ..).trans hissued)

/-- An entry out of CWAI, whose frame is on the stack already (R539). -/
theorem step_enters_stacked (hs : s.Evaluates) (hk : s.accepts k = true) (hwait : s.wait = .cwai)
    (hrestacks : s.cfg.cwaiEntryRestacks = false) : step s = .next (s.entered k 7) := by
  have hpre : (s.wait == .cwai && !s.cfg.cwaiEntryRestacks) = true := by simp [hwait, hrestacks]
  rw [hs.step_eq, evaluate_of_accepts hk, hpre, enterInterrupt_awake]
  exact finish_eq_next ((State.entered_defragIssued ..).trans hs.defrag)

end

/-- Settles O47: an entry is the frame, if CWAI has not pushed it, and the end of every entry. -/
theorem interruptEntry : Obligations.InterruptEntry := by
  refine ⟨fun s k hs hk hpush hclear => ?_, fun s k hs hk hwait hrestacks => ?_⟩
  · refine ⟨_, step_enters hs hk hpush hclear, ?_, rfl, ?_, rfl, ?_, fun q hq hpc hcc => ?_, fun hi lo hram hvector => ?_⟩
    · rw [State.entered_sp, pushFrame_sp]
    · rw [State.entered_cc, pushFrame_cc]
    · rw [State.entered_nmiHist, (pushFrame_controlAfter k s).nmiN]
    · exact (pushFrame_sameReg hq hcc).trans (State.entered_sameReg hpc hcc)
    · obtain ⟨hbytes, hothers⟩ := pushFrame_pushedBelow hram
      obtain ⟨hpc, hmemory⟩ := State.entered_of_bytesAt (n := k.cycles) hvector
      exact ⟨hpc, ⟨fun j hj => (hmemory.peek_eq _).trans (hbytes j hj), fun a ha => (hmemory.peek_eq a).trans (hothers a ha)⟩⟩
  · exact ⟨_, step_enters_stacked hs hk hwait hrestacks, rfl, rfl, rfl, State.entered_nmiHist ..,
      (State.entered_accesses.memoryUnchanged (W := fun _ => False) fun _ => id).ram,
      fun q hpc hcc => State.entered_sameReg hpc hcc⟩

/-! ### Frames that stay on the stack -/

theorem inRam_of_ramBelow {s : State} {p : Word} {n j : Nat} (h : s.ramBelow p n = true) (hj : j < n) :
    s.inRam (p - 1 - BitVec.ofNat 16 j) = true := by
  induction n generalizing p j with
  | zero => exact absurd hj (Nat.not_lt_zero j)
  | succ n ih =>
    obtain ⟨htop, hrest⟩ := Bool.and_eq_true_iff.mp h
    cases j with
    | zero => simpa using htop
    | succ j =>
      have hplace : p - 1 - BitVec.ofNat 16 (j + 1) = p - 1 - 1 - BitVec.ofNat 16 j := by
        rw [ofNat_succ]
        ring
      rw [hplace]
      exact ih hrest (Nat.lt_of_succ_lt_succ hj)

theorem inMmuBlock_of_inRam {s : State} {a : Addr} (h : s.inRam a = true) : s.inMmuBlock a = false := by
  obtain ⟨o, hl⟩ := inRam_iff.mp h
  rw [State.inMmuBlock, hl]
  rfl

/-- Bytes pushed into RAM still lie there after reads, from where a pull takes them. -/
theorem PushedBelow.bytesAt_of_reads {s t u : State} {p : Word} {bs : List Byte} (h : PushedBelow s t p bs)
    (hram : t.ramBelow p bs.length = true) (hreads : t.Accesses (fun _ => False) u) :
    u.bytesAt (p - BitVec.ofNat 16 bs.length) bs.reverse = true := by
  refine PushedBelow.bytesAt (s := u) ⟨fun j hj => ?_, fun _ _ => rfl⟩
  have hplace := inMmuBlock_of_inRam (inRam_of_ramBelow hram hj)
  rw [hreads.peek (fun _ hw => hw.elim) id hplace, h.1 j hj]

/-! ### The return (R541, R542, 45_stack_system.md R428) -/

/-- RTI takes a fast frame back: PC and CC. -/
theorem returnFromInterrupt_of_fastFrame {m t : State} (he : m.cc.e = false)
    (h : t.bytesAt t.sp (m.frame .s [.pc, .cc]).reverse = true) :
    returnFromInterrupt t = { t with cc := m.cc, pc := m.pc, sp := t.sp + 3 } := by
  have hE : m.cc.toByte.getLsbD 7 = false := (CC.toByte_getLsbD m.cc 7).trans he
  rw [returnFromInterrupt_of_fast hE h, CC.ofByte_toByte, joinBytes_hi_lo]

/-- RTI takes an entire frame back: every register but S. -/
theorem returnFromInterrupt_of_entireFrame {m t : State} (he : m.cc.e = true)
    (h : t.bytesAt t.sp (m.frame .s pushOrder).reverse = true) :
    returnFromInterrupt t = { t with
      cc := m.cc
      a := m.a
      b := m.b
      dp := m.dp
      x := m.x
      y := m.y
      u := m.u
      pc := m.pc
      sp := t.sp + 12
      busy := t.busy + 9 } := by
  have hE : m.cc.toByte.getLsbD 7 = true := (CC.toByte_getLsbD m.cc 7).trans he
  rw [returnFromInterrupt_of_entire hE h]
  simp only [CC.ofByte_toByte, joinBytes_hi_lo]

/-- RTI gives every register back as it was before the frame was pushed, but for E. -/
theorem returnFromInterrupt_of_interruptFrame {k : Interrupt} {m t : State}
    (hsp : t.sp = m.sp - BitVec.ofNat 16 (m.interruptFrame k).length)
    (hregs : ∀ q : Reg, q ≠ .s → q ≠ .pc → q ≠ .cc → m.SameReg q t)
    (h : t.bytesAt t.sp (m.interruptFrame k).reverse = true) :
    (∀ q : Reg, q ≠ .cc → m.SameReg q (returnFromInterrupt t)) ∧
      (returnFromInterrupt t).cc = { m.cc with e := decide (k ≠ .firq) } := by
  by_cases hk : k = .firq
  · subst hk
    have hback : t.sp + 3 = m.sp := by
      rw [hsp]
      exact sub_add_cancel m.sp 3
    rw [returnFromInterrupt_of_fastFrame (m := m.setE false) rfl h, hback]
    refine ⟨fun q hcc => ?_, rfl⟩
    by_cases hs : q = .s
    · rw [hs]
      rfl
    by_cases hpc : q = .pc
    · rw [hpc]
      rfl
    have hothers := ((withCC_sameReg hcc t (m.setE false).cc).trans (jump_sameReg hpc _ m.pc)).trans
      (setStackPtr_sameReg (k := .s) hs _ m.sp)
    exact (hregs q hs hpc hcc).trans hothers
  · have hframe : m.interruptFrame k = (m.setE true).frame .s pushOrder := by
      cases k
      case firq => exact absurd rfl hk
      all_goals rfl
    rw [hframe] at hsp h
    have hback : t.sp + 12 = m.sp := by
      rw [hsp]
      exact sub_add_cancel m.sp 12
    rw [returnFromInterrupt_of_entireFrame (m := m.setE true) rfl h, hback, decide_eq_true hk]
    refine ⟨fun q hcc => ?_, rfl⟩
    cases q
    case cc => exact absurd rfl hcc
    all_goals rfl

end Sys2Proof.Machine

/-! PROOFS. An interrupt and the return from it, and the same out of CWAI (60_exceptions.md R539, R541, R542). -/

namespace Sys2Proof.Machine

/-! ### A frame on the stack -/

/-- `t` comes from `m` by pushing the frame of interrupt `j` into RAM: it lies below the old pointer, and the registers that
an entry does not write are as in `m`. -/
structure State.Stacked (m : State) (j : Interrupt) (t : State) : Prop where
  cfg : t.cfg = m.cfg
  fault : t.fault = m.fault
  defrag : t.defragIssued = false
  ram : m.ramBelow m.sp (m.interruptFrame j).length = true
  sp : t.sp = m.sp - BitVec.ofNat 16 (m.interruptFrame j).length
  regs : ∀ q : Reg, q ≠ .s → q ≠ .pc → q ≠ .cc → m.SameReg q t
  pushed : PushedBelow m t m.sp (m.interruptFrame j)

theorem pushFrame_stacked {s : State} (k : Interrupt) (hdefrag : s.defragIssued = false)
    (hram : s.ramBelow s.sp (s.interruptFrame k).length = true) : s.Stacked k (pushFrame k s) where
  cfg := (pushFrame_controlAfter k s).cfg
  fault := (pushFrame_controlAfter k s).fault
  defrag := by
    rw [pushFrame_defragIssued, hdefrag, pushesClear_of_ramBelow hram]
    rfl
  ram := hram
  sp := pushFrame_sp k s
  regs _ hq _ hcc := pushFrame_sameReg hq hcc
  pushed := pushFrame_pushedBelow hram

section
variable {m t : State} {j : Interrupt}

theorem State.Stacked.withWait (h : m.Stacked j t) (w : WaitState) : m.Stacked j { t with wait := w } where
  cfg := h.cfg
  fault := h.fault
  defrag := h.defrag
  ram := h.ram
  sp := h.sp
  regs q hq hpc hcc := (h.regs q hq hpc hcc).trans (withWait_sameReg q t w)
  pushed := h.pushed.of_sameMemory (.refl m) (withWait_sameMemory t w)

/-- The machine counts down, and the environment drives the lines. -/
theorem State.Stacked.withLines (h : m.Stacked j t) (nmi firq irq : Bool) :
    m.Stacked j ({ t with busy := 0 }.withLines nmi firq irq) where
  cfg := h.cfg
  fault := h.fault
  defrag := h.defrag
  ram := h.ram
  sp := h.sp
  regs q hq hpc hcc := (h.regs q hq hpc hcc).trans (by cases q <;> rfl)
  pushed := h.pushed.of_sameMemory (.refl m) ⟨rfl, rfl, rfl, rfl, rfl, rfl⟩

/-- RTI at the handler takes the frame back, whichever interrupt was entered over it. -/
theorem State.Stacked.exec_rti_entered (h : m.Stacked j t) (k : Interrupt) (n : Nat) :
    ∃ u, exec .rti (t.entered k n) = .next u ∧ (∀ q : Reg, q ≠ .cc → m.SameReg q u) ∧
      u.cc = { m.cc with e := decide (j ≠ .firq) } := by
  have hsp : (t.entered k n).sp = m.sp - BitVec.ofNat 16 (m.interruptFrame j).length := by rw [State.entered_sp, h.sp]
  have hram : t.ramBelow m.sp (m.interruptFrame j).length = true := (ramBelow_congr h.cfg _ _).trans h.ram
  have hbytes := h.pushed.bytesAt_of_reads hram (State.entered_accesses (k := k) (n := n))
  rw [← hsp] at hbytes
  refine ⟨_, exec_rti ((State.entered_defragIssued ..).trans h.defrag), ?_⟩
  exact returnFromInterrupt_of_interruptFrame hsp
    (fun q hq hpc hcc => (h.regs q hq hpc hcc).trans (State.entered_sameReg hpc hcc)) hbytes

end

/-! ### The round trips -/

theorem step_then_rti {s : State} {k : Interrupt} (hs : s.Evaluates)
    (hpush : s.wait ≠ .cwai ∨ s.cfg.cwaiEntryRestacks = true) (hk : s.accepts k = true)
    (hram : s.ramBelow s.sp (s.interruptFrame k).length = true) :
    ∃ t u, step s = .next t ∧ exec .rti t = .next u ∧ (∀ q : Reg, q ≠ .cc → s.SameReg q u) ∧
      u.cc = { s.cc with e := decide (k ≠ .firq) } := by
  obtain ⟨u, hrti, hback⟩ := (pushFrame_stacked k hs.defrag hram).exec_rti_entered k k.cycles
  exact ⟨_, u, step_enters hs hk hpush (pushesClear_of_ramBelow hram), hrti, hback⟩

/-- CWAI leaves the entire frame on the stack, the mask combined into CC. -/
theorem exec_cwai_stacked {s : State} {v : Byte} (hdefrag : s.defragIssued = false) (hram : s.ramBelow s.sp 12 = true) :
    ∃ t, exec (.cwai v) s = .next t ∧ t.wait = .cwai ∧ (s.andCC v).Stacked .irq t := by
  rw [← ramBelow_congr (s.andCC_cfg v)] at hram
  have hstacked : (s.andCC v).Stacked .irq (pushEntire (s.andCC v)) := pushFrame_stacked .irq hdefrag hram
  exact ⟨_, exec_cwai hstacked.defrag, rfl, hstacked.withWait .cwai⟩

/-- An entry over the frame that CWAI has pushed, and RTI. -/
theorem State.Stacked.step_then_rti {m t : State} {j k : Interrupt} (h : m.Stacked j t) (hm : m.Evaluates)
    (hrestacks : m.cfg.cwaiEntryRestacks = false) (hwait : t.wait = .cwai) (hbusy : t.busy = 0) (hk : t.accepts k = true) :
    ∃ u w, step t = .next u ∧ exec .rti u = .next w ∧ (∀ q : Reg, q ≠ .cc → m.SameReg q w) ∧
      w.cc = { m.cc with e := decide (j ≠ .firq) } := by
  have ht : t.Evaluates := ⟨h.cfg ▸ hm.cfg, h.fault.trans hm.fault, hbusy, h.defrag⟩
  obtain ⟨w, hrti, hback⟩ := h.exec_rti_entered k 7
  exact ⟨_, w, step_enters_stacked ht hk hwait (h.cfg ▸ hrestacks), hrti, hback⟩

/-- Settles O48: the frame in RAM survives the reading of the vector, and RTI takes it back. -/
theorem interruptRoundTrip : Obligations.InterruptRoundTrip := by
  refine ⟨fun s k hs hpush hk hram => step_then_rti hs hpush hk hram, fun s v k nmi firq irq hs hrestacks hram => ?_⟩
  obtain ⟨t, hcwai, hwait, hstacked⟩ := exec_cwai_stacked (v := v) hs.defrag hram
  refine ⟨t, hcwai, fun hk => ?_⟩
  have hm : (s.andCC v).Evaluates := ⟨hs.cfg, hs.fault, hs.busy, hs.defrag⟩
  obtain ⟨u, w, hstep, hrti, hregs, hcc⟩ :=
    (hstacked.withLines nmi firq irq).step_then_rti hm hrestacks hwait rfl hk
  exact ⟨u, w, hstep, hrti, fun q hq => (andCC_sameReg hq s v).trans (hregs q hq), hcc⟩

end Sys2Proof.Machine

/-! PROOFS. The reset input (70_reset_and_hazards.md R580): what it writes, that it masks every interrupt, and that the tick
after it is an evaluation. -/

namespace Sys2Proof.Machine

/-! ### The reset input (R580) -/

/-- What the reset input writes before it reads the RESET vector. -/
def State.resetControl (s : State) : State :=
  { s with
    dp := 0x00
    cc := { s.cc with f := true, i := true }
    nmiDisabled := true
    nmiHist := true
    wait := .normal
    busy := 0
    fault := none }

theorem State.resetInput_eq_jumpVector (s : State) : s.resetInput = jumpVector .reset s.resetControl := rfl

/-- The bus does not see what the reset input writes, so the vector is the one that `s` shows. -/
theorem State.resetControl_bytesAt (s : State) (a : Addr) (vs : List Byte) : s.resetControl.bytesAt a vs = s.bytesAt a vs :=
  State.bytesAt_congr (s := s) (t := s.resetControl) (fun _ => rfl) a vs

/-- A defined vector is read without a side effect, so PC is all that the reset input adds. -/
theorem State.resetInput_of_bytesAt {s : State} {hi lo : Byte} (h : s.bytesAt Vector.reset.addr [hi, lo] = true) :
    s.resetInput = s.resetControl.jump (joinBytes hi lo) := by
  rw [State.resetInput_eq_jumpVector]
  exact jumpVector_of_bytesAt ((s.resetControl_bytesAt _ _).trans h)

/-- NMI is disabled and CC.F and CC.I are set: no interrupt is entered, whatever the lines and the vector are. -/
theorem State.resetInput_noInterrupt (s : State) : s.resetInput.NoInterrupt :=
  ⟨.inr (jumpVector_nmiDisabled .reset s.resetControl),
    .inr (congrArg CC.f (jumpVector_cc .reset s.resetControl)),
    .inr (congrArg CC.i (jumpVector_cc .reset s.resetControl))⟩

/-- The reset input clears the fault latch and `busy`, and reading the vector leaves both as they are. -/
theorem State.resetInput_evaluates {s : State} (hcfg : s.cfg.wf = true) (hdefrag : s.defragIssued = false) :
    s.resetInput.Evaluates where
  cfg := (congrArg Config.wf (jumpVector_cfg .reset s.resetControl)).trans hcfg
  fault := jumpVector_fault .reset s.resetControl
  busy := jumpVector_busy .reset s.resetControl
  defrag := (jumpVector_defragIssued .reset s.resetControl).trans hdefrag

/-- Settles O9: the vector's bytes are defined, so the reset input is its own writes and a jump; the rest holds at any vector. -/
theorem resetInput : Obligations.ResetInput := by
  intro s hi lo hhi hlo
  have hvector : s.bytesAt Vector.reset.addr [hi, lo] = true :=
    State.bytesAt_cons.mpr ⟨hhi, State.bytesAt_cons.mpr ⟨hlo, rfl⟩⟩
  exact ⟨State.resetInput_of_bytesAt hvector, s.resetInput_noInterrupt, State.resetInput_evaluates⟩

end Sys2Proof.Machine
